-- ==== Sys2Proof/Word.lean ====
section
/-! DEFINITION. The widths of the SFX block's registers and words (spec rules R60, R80, R34, R25, R24). -/

namespace Sys2Proof

/-- A whole host register, and the container of every value whose width is a parameter of at most 16 (R60, R7). -/
abbrev Word := BitVec 16

/-- A frame byte: the opcode, the expander address or the data (R34, R67). -/
abbrev Byte := BitVec 8

/-- The configuration input CFG_IN and the latched CFG_NIB (R25). -/
abbrev Nibble := BitVec 4

/-- A three-bit field: DEPTH, WP, the codes of SEQ and EXP, a register address (R23, R24, R30, R60). -/
abbrev Three := BitVec 3

/-- A host transaction word, format HT (R80). -/
abbrev HtWord := BitVec 20

end Sys2Proof
end

