-- ==== Sys2Proof/Syntax.lean ====
section
/-! DEFINITION. The steps of the SFX block: one constructor of `Instr` per row of the opcode table (R92, R94), the
agents' events, and the turns the outside offers the block (R3, R12, R21). -/

namespace Sys2Proof

/-- One atomic step: the 16 host transactions of R92 and the 9 block and device steps of R94. A read carries no
operand, because it ignores field D (R82). A write carries its write data D. -/
inductive Instr where
  | rdCtrl
  | wrCtrl (d : Word)
  | rdStatus
  | wrStatus (d : Word)
  | rdReload
  | wrReload (d : Word)
  | rdCount
  | wrCount (d : Word)
  | rdOut
  | wrOut (d : Word)
  | rdExpcmd
  | wrExpcmd (d : Word)
  | rdCfg
  | wrCfg (d : Word)
  | rdRsv7
  | wrRsv7 (d : Word)
  | tce
  | seqT1
  | seqT2
  /-- ADC_DONE(v), with `v` the value on ADC_DATA (R205). -/
  | adcDone (v : Word)
  | seqT4
  | adcTimeout
  | spiDone
  | spiTimeout
  | reset
deriving DecidableEq, Repr, Inhabited

/-- The steps of the agents other than HOST (R3, R94): the EVENT rows of the opcode table, which no word encodes. -/
inductive Event where
  | tce
  | seqT1
  | seqT2
  | adcDone (v : Word)
  | seqT4
  | adcTimeout
  | spiDone
  | spiTimeout
  | reset
deriving DecidableEq, Repr, Inhabited

/-- What the outside offers the block next. A turn stands for one choice of the free interleaving of R12, or for a
CLK edge, which the wait counters of R37 count. -/
inductive Turn where
  /-- The host puts one transaction word on its bus (R80). -/
  | host (w : HtWord)
  /-- An agent other than the host is offered its step (R94). -/
  | event (e : Event)
  /-- A CLK edge with RST = 0. It is no agent's step (R3), and of the elements it changes the wait counters alone. -/
  | clk
deriving DecidableEq, Repr, Inhabited

end Sys2Proof
end

