-- ==== Sys2Proof/Config.lean ====
section
/-! DEFINITION. The implementation parameters of R6 with their reference values, and the free choice of the next
turn (R12) and of the value on CFG_IN (R38). -/

namespace Sys2Proof

/-- A bound on a wait: `unbounded`, or a count of CLK cycles (R6). -/
inductive Timeout where
  | unbounded
  | bounded (cycles : Nat)
deriving DecidableEq, Repr, Inhabited

/-- The order of a byte's bits on the wire (R6, R67). -/
inductive BitOrder where
  | msbFirst
  | lsbFirst
deriving DecidableEq, Repr, Inhabited

/-- The implementation parameters of R6. Nothing the block does changes one. -/
structure Params where
  /-- W_S, the width of one raw sample. -/
  wS : Nat
  /-- W_OUT, the width of the output latch. -/
  wOut : Nat
  /-- W_TMR, the width of COUNT and RELOAD. -/
  wTmr : Nat
  /-- WRITE_OPCODE, byte 0 of every frame. -/
  writeOpcode : Byte
  /-- ADC_TIMEOUT. -/
  adcTimeout : Timeout
  /-- SPI_TIMEOUT. -/
  spiTimeout : Timeout
  /-- SPI_MODE, 0 to 3. The external shifter uses it, and no event of the block depends on it (R146). -/
  spiMode : BitVec 2
  /-- SPI_BIT_ORDER. The external shifter uses it (R67, R146). -/
  spiBitOrder : BitOrder
deriving DecidableEq, Repr, Inhabited

/-- The reference column of R6. -/
def Params.reference : Params where
  wS := 12
  wOut := 12
  wTmr := 16
  writeOpcode := 0x40#8
  adcTimeout := .unbounded
  spiTimeout := .unbounded
  spiMode := 0
  spiBitOrder := .msbFirst

/-- The free interleaving of R12: which turn comes next is a free choice, and so are the values it draws (I1, I2).
No proof can see which turn it is. -/
opaque Config.freeTurn : Nat → Turn

/-- The value on CFG_IN at a read of the port, a draw (R38, R171, I2). No proof can see which value it is. -/
opaque Config.freeCfgIn : Nat → Nibble

end Sys2Proof
end

