-- ==== Sys2Proof/WellFormed.lean ====
section
/-! DEFINITION. The legal parameter sets of R7, and the well-formed steps: a value on ADC_DATA fits the port's W_S
wires (R21, R204). -/

namespace Sys2Proof

/-- A width lies in 1..16 (R7). -/
def legalWidth (w : Nat) : Bool := decide (1 ≤ w) && decide (w ≤ 16)

/-- A timeout is unbounded or positive (R7). -/
def Timeout.legal : Timeout → Bool
  | .unbounded => true
  | .bounded n => decide (0 < n)

/-- The constraints of R7. -/
def Params.legal (p : Params) : Bool :=
  legalWidth p.wS && legalWidth p.wOut && legalWidth p.wTmr && p.adcTimeout.legal && p.spiTimeout.legal

/-- A value on a port of `w` wires (R8). -/
def fits (w : Nat) (v : Word) : Bool := decide (v.toNat < 2 ^ w)

/-- A well-formed step under the parameters `p`. Every host word is legal (R93), so only the operand of ADC_DONE has
a condition: the port ADC_DATA is W_S bits wide (R21). -/
def Instr.wellFormed (p : Params) : Instr → Bool
  | .adcDone v => fits p.wS v
  | .rdCtrl | .wrCtrl _ | .rdStatus | .wrStatus _ | .rdReload | .wrReload _ | .rdCount | .wrCount _
  | .rdOut | .wrOut _ | .rdExpcmd | .wrExpcmd _ | .rdCfg | .wrCfg _ | .rdRsv7 | .wrRsv7 _
  | .tce | .seqT1 | .seqT2 | .seqT4 | .adcTimeout | .spiDone | .spiTimeout | .reset => true

end Sys2Proof
end

