-- ==== Sys2Proof/Decode.lean ====
section
/-! DEFINITION. Decoding the 20-bit host transaction word (R80 to R82, R92), and the encoder written from the same
table. Every 20-bit word is legal (R93); a number of more than 20 bits is no transaction word and is rejected by
name. -/

namespace Sys2Proof

/-- Field W, bit 19: 1 is a write (R80). -/
def wField (w : HtWord) : Bool := w.getLsbD 19

/-- Field A, bits 18:16: the register address (R80). -/
def aField (w : HtWord) : Three := w.extractLsb' 16 3

/-- Field D, bits 15:0: the write data (R80). -/
def dField (w : HtWord) : Word := w.extractLsb' 0 16

/-- The transaction of a word, by fields W and A alone (R81, R92). -/
def decode (w : HtWord) : Instr :=
  match wField w, (aField w).toNat with
  | false, 0 => .rdCtrl
  | false, 1 => .rdStatus
  | false, 2 => .rdReload
  | false, 3 => .rdCount
  | false, 4 => .rdOut
  | false, 5 => .rdExpcmd
  | false, 6 => .rdCfg
  | false, _ => .rdRsv7
  | true, 0 => .wrCtrl (dField w)
  | true, 1 => .wrStatus (dField w)
  | true, 2 => .wrReload (dField w)
  | true, 3 => .wrCount (dField w)
  | true, 4 => .wrOut (dField w)
  | true, 5 => .wrExpcmd (dField w)
  | true, 6 => .wrCfg (dField w)
  | true, _ => .wrRsv7 (dField w)

/-- Why a number is no transaction word. -/
inductive DecodeError where
  /-- The number has a bit above bit 19, and the bus has 20 wires (R80). -/
  | widerThanTwentyBits
deriving DecidableEq, Repr

/-- Decoding of any number of bits: a transaction, or a rejection by name. -/
def decodeBits (n : Nat) : Except DecodeError Instr :=
  if n < 2 ^ 20 then .ok (decode (BitVec.ofNat 20 n)) else .error .widerThanTwentyBits

/-- The word of format HT with these fields (R80). -/
def htWord (write : Bool) (a : Three) (d : Word) : HtWord := BitVec.ofBool write ++ a ++ d

/-- The word of a host transaction. A read is assembled with D = 0 (R82, R95). The EVENT rows have no word (R94). -/
def encode : Instr → Option HtWord
  | .rdCtrl => some (htWord false 0 0)
  | .wrCtrl d => some (htWord true 0 d)
  | .rdStatus => some (htWord false 1 0)
  | .wrStatus d => some (htWord true 1 d)
  | .rdReload => some (htWord false 2 0)
  | .wrReload d => some (htWord true 2 d)
  | .rdCount => some (htWord false 3 0)
  | .wrCount d => some (htWord true 3 d)
  | .rdOut => some (htWord false 4 0)
  | .wrOut d => some (htWord true 4 d)
  | .rdExpcmd => some (htWord false 5 0)
  | .wrExpcmd d => some (htWord true 5 d)
  | .rdCfg => some (htWord false 6 0)
  | .wrCfg d => some (htWord true 6 d)
  | .rdRsv7 => some (htWord false 7 0)
  | .wrRsv7 d => some (htWord true 7 d)
  | .tce | .seqT1 | .seqT2 | .adcDone _ | .seqT4 | .adcTimeout | .spiDone | .spiTimeout | .reset => none

/-- The step of the table that an agent's event is (R94). -/
def Event.instr : Event → Instr
  | .tce => .tce
  | .seqT1 => .seqT1
  | .seqT2 => .seqT2
  | .adcDone v => .adcDone v
  | .seqT4 => .seqT4
  | .adcTimeout => .adcTimeout
  | .spiDone => .spiDone
  | .spiTimeout => .spiTimeout
  | .reset => .reset

/-- The row's mnemonic in the opcode table. -/
def Instr.mnemonic : Instr → String
  | .rdCtrl => "RD.CTRL"
  | .wrCtrl _ => "WR.CTRL"
  | .rdStatus => "RD.STATUS"
  | .wrStatus _ => "WR.STATUS"
  | .rdReload => "RD.RELOAD"
  | .wrReload _ => "WR.RELOAD"
  | .rdCount => "RD.COUNT"
  | .wrCount _ => "WR.COUNT"
  | .rdOut => "RD.OUT"
  | .wrOut _ => "WR.OUT"
  | .rdExpcmd => "RD.EXPCMD"
  | .wrExpcmd _ => "WR.EXPCMD"
  | .rdCfg => "RD.CFG"
  | .wrCfg _ => "WR.CFG"
  | .rdRsv7 => "RD.RSV7"
  | .wrRsv7 _ => "WR.RSV7"
  | .tce => "TCE"
  | .seqT1 => "SEQ.T1"
  | .seqT2 => "SEQ.T2"
  | .adcDone _ => "ADC_DONE"
  | .seqT4 => "SEQ.T4"
  | .adcTimeout => "ADC_TIMEOUT"
  | .spiDone => "SPI_DONE"
  | .spiTimeout => "SPI_TIMEOUT"
  | .reset => "RESET"

/-- One row of the opcode map of R92. -/
structure Row where
  mnemonic : String
  pattern : HtWord
  mask : HtWord
deriving DecidableEq, Repr

/-- The opcode map of R92: mnemonic, match and mask. -/
def rows : List Row := [
  ⟨"RD.CTRL", 0x00000#20, 0xF0000#20⟩, ⟨"WR.CTRL", 0x80000#20, 0xF0000#20⟩,
  ⟨"RD.STATUS", 0x10000#20, 0xF0000#20⟩, ⟨"WR.STATUS", 0x90000#20, 0xF0000#20⟩,
  ⟨"RD.RELOAD", 0x20000#20, 0xF0000#20⟩, ⟨"WR.RELOAD", 0xA0000#20, 0xF0000#20⟩,
  ⟨"RD.COUNT", 0x30000#20, 0xF0000#20⟩, ⟨"WR.COUNT", 0xB0000#20, 0xF0000#20⟩,
  ⟨"RD.OUT", 0x40000#20, 0xF0000#20⟩, ⟨"WR.OUT", 0xC0000#20, 0xF0000#20⟩,
  ⟨"RD.EXPCMD", 0x50000#20, 0xF0000#20⟩, ⟨"WR.EXPCMD", 0xD0000#20, 0xF0000#20⟩,
  ⟨"RD.CFG", 0x60000#20, 0xF0000#20⟩, ⟨"WR.CFG", 0xE0000#20, 0xF0000#20⟩,
  ⟨"RD.RSV7", 0x70000#20, 0xF0000#20⟩, ⟨"WR.RSV7", 0xF0000#20, 0xF0000#20⟩]

/-- A word matches a row where its masked bits are the row's. -/
def Row.matchesWord (r : Row) (w : HtWord) : Bool := (w &&& r.mask) == r.pattern

/-- The transaction read from a word numbered as the opcode table numbers it: bit 0 the least significant bit, and
every bit above `nbits` zero. -/
def decodeTableWord (nbits w : Nat) : Option Instr :=
  match decodeBits (w % 2 ^ nbits) with
  | .ok i => some i
  | .error _ => none

end Sys2Proof
end

