-- ==== Sys2Proof/Machine/State.lean ====
section
/-! DEFINITION. The state of the SFX block (R20 to R37), what stands at its ports (R21), the trace of R66, and the
state after reset (R39). -/

namespace Sys2Proof.Machine

/-- FMODE, the filter's mode (R24). -/
inductive FMode where
  | uncfg
  | inactive
  | active
deriving DecidableEq, Repr, Inhabited

/-- SEQ, the tick sequencer's state (R30). The codes 5 to 7 never occur (I18). -/
inductive SeqState where
  | idle
  | sampling
  | converting
  | done
  | fault
deriving DecidableEq, Repr, Inhabited

/-- EXP, the frame engine's state (R33). The codes 5 to 7 never occur (I18). -/
inductive ExpState where
  | idle
  | b0
  | b1
  | b2
  | fault
deriving DecidableEq, Repr, Inhabited

/-- The events of the output trace (R66). -/
inductive TraceEvent where
  | tickRise
  | adcStart
  | outWrite (y : Word)
  | tickFall
  | csAssert
  | tx (b : Byte)
  | csDeassert
  | reset
deriving DecidableEq, Repr, Inhabited

/-- The block stops with no fault: its error causes are sticky bits and its fault states are states of SEQ and EXP,
and it never halts by itself (R240, R247, R297). No one raises a fault, which is safe. -/
inductive Fault where
deriving DecidableEq, Repr

/-- Why a step has no meaning. -/
inductive Refusal where
  /-- Raised by an arm of `exec` whose instruction has no meaning yet. Safe: the model stops. -/
  | notModelled (mnemonic : String)
  /-- Raised by `step` where the parameter set breaks a constraint of R7, which the model must refuse. Safe: the model
  stops. -/
  | illegalParameters
deriving DecidableEq, Repr

/-- The state. A value whose width is a parameter is held in a 16-bit word; `Inv` in Safety.lean says that it fits. -/
structure State where
  /-- The implementation parameters (R6). No step changes them. -/
  params : Params
  /-- HIST[0..4], the sample slots (R22). -/
  hist : Vector Word 5
  /-- WP, the circular write pointer (R23). -/
  wp : Three
  /-- FMODE (R24). -/
  fmode : FMode
  /-- DEPTH (R24). -/
  depth : Three
  /-- CFG_NIB, the nibble that configure latched (R25). -/
  cfgNib : Nibble
  /-- ARM (R26). -/
  arm : Bool
  /-- RELOAD, W_TMR bits (R27). -/
  reload : Word
  /-- COUNT, W_TMR bits (R28). -/
  count : Word
  /-- PENDING (R29). -/
  pending : Bool
  /-- SEQ (R30). -/
  seq : SeqState
  /-- TICK, which drives the port TICK (R31). -/
  tick : Bool
  /-- OUT_LATCH, W_OUT bits, which drives the port OUT (R32). -/
  outLatch : Word
  /-- EXP (R33). -/
  exp : ExpState
  /-- EXP_ADDR (R34). -/
  expAddr : Byte
  /-- EXP_DATA (R34). -/
  expData : Byte
  /-- CS_N, which drives the port SPI_CS_N; `false` is asserted (R35). -/
  csN : Bool
  /-- ERR_OVR (R36). -/
  errOvr : Bool
  /-- ERR_ADC_TO (R36). -/
  errAdcTo : Bool
  /-- ERR_SPI_TO (R36). -/
  errSpiTo : Bool
  /-- ERR_PROTO (R36). -/
  errProto : Bool
  /-- ADC_WAIT, the CLK cycles waited for ADC_DONE (R37). -/
  adcWait : Nat
  /-- SPI_WAIT, the CLK cycles waited for SPI_DONE (R37). -/
  spiWait : Nat
  /-- RDATA of this turn's transaction, where it was a read (R80). -/
  rdata : Option Word
  /-- The port ADC_START: 1 in the turn of its pulse (R21, R203). -/
  adcStart : Bool
  /-- The ports SPI_TX_START and SPI_TX_DATA: the byte handed over in this turn (R21, R142). -/
  spiTx : Option Byte
  /-- The values that the outside puts on CFG_IN for the next reads of the port, the first one first (R38). -/
  cfgDraws : List Nibble
  /-- How many values were drawn from `Config.freeCfgIn` (R38). -/
  cfgDrawn : Nat
  /-- RST was 1 in the last cycle (R280). -/
  rstHeld : Bool
  /-- The output trace, oldest event first (R66). -/
  trace : List TraceEvent
  /-- The turns the outside offers next, oldest first (R12). -/
  sched : List Turn
  /-- How many turns were drawn from `Config.freeTurn` (R12). -/
  drawn : Nat
deriving DecidableEq, Repr

/-- The state after reset of a block with parameters `p` (R39). -/
def State.resetWith (p : Params) : State where
  params := p
  hist := Vector.replicate 5 0
  wp := 0
  fmode := .uncfg
  depth := 0
  cfgNib := 0
  arm := false
  reload := 0
  count := 0
  pending := false
  seq := .idle
  tick := false
  outLatch := 0
  exp := .idle
  expAddr := 0
  expData := 0
  csN := true
  errOvr := false
  errAdcTo := false
  errSpiTo := false
  errProto := false
  adcWait := 0
  spiWait := 0
  rdata := none
  adcStart := false
  spiTx := none
  cfgDraws := []
  cfgDrawn := 0
  rstHeld := false
  trace := []
  sched := []
  drawn := 0

/-- The state after reset with the reference parameters of R6. -/
def State.reset : State := State.resetWith Params.reference

end Sys2Proof.Machine
end

