-- ==== Sys2Proof/Machine/Ops.lean ====
section
/-! DEFINITION. The named operations over the state: the primitives of R10, the entry to the tick interrupt and the
return from it (R244, R245), the reset of every element (R280) and the output ports (R21). -/

namespace Sys2Proof.Machine

/-- `emit E`: append an event to the output trace (R10, R66). -/
def State.emit (s : State) (e : TraceEvent) : State := { s with trace := s.trace ++ [e] }

/-- The host read returns RDATA (R80). -/
def State.respond (s : State) (v : Word) : State := { s with rdata := some v }

/-- The value on CFG_IN at this read of the port, a draw: the next value the outside puts there, or a free one where it
put none (R38). -/
def State.cfgIn (s : State) : Nibble :=
  match s.cfgDraws with
  | n :: _ => n
  | [] => Config.freeCfgIn s.cfgDrawn

/-- The draw of `State.cfgIn` is used up, so that the next read draws again (R38). -/
def State.takeCfgIn (s : State) : State :=
  { s with
    cfgDraws := s.cfgDraws.tail
    cfgDrawn := if s.cfgDraws.isEmpty then s.cfgDrawn + 1 else s.cfgDrawn }

/-- How the host broke the interface contract (R240, code 4). -/
inductive ProtoReason where
  | writeWhileBusy
  | configureTwice
  | armBeforeConfigure
deriving DecidableEq, Repr

/-- The error causes of R240, with the info argument of `raise`. The block records the cause's bit and nothing else. -/
inductive ErrCause where
  | ovr
  | adcTo
  | spiTo (byte : Nat)
  | proto (reason : ProtoReason)
deriving DecidableEq, Repr

/-- The code of a cause (R240). -/
def ErrCause.code : ErrCause → Nat
  | .ovr => 1
  | .adcTo => 2
  | .spiTo _ => 3
  | .proto _ => 4

/-- The bit of STATUS that records a cause (R240). -/
def ErrCause.statusBit : ErrCause → Nat
  | .ovr => 11
  | .adcTo => 12
  | .spiTo _ => 13
  | .proto _ => 14

/-- `raise ERR_X(info)`: set the sticky bit of the cause (R10, R240). -/
def State.raise (s : State) : ErrCause → State
  | .ovr => { s with errOvr := true }
  | .adcTo => { s with errAdcTo := true }
  | .spiTo _ => { s with errSpiTo := true }
  | .proto _ => { s with errProto := true }

/-- The tick interrupt is taken when SEQ = IDLE, ARM = 1 and PENDING = 1 (R202, R243). -/
def State.tickDue (s : State) : Bool := s.seq == .idle && s.arm && s.pending

/-- Entry to the tick, the work of SEQ.T1: it reloads COUNT before anything else, raises TICK and saves no context
(R202, R244). -/
def State.enterTick (s : State) : State :=
  { ({ s with count := s.reload, tick := true }.emit .tickRise) with seq := .sampling }

/-- Return from the tick, the work of SEQ.T4: it lowers TICK, clears PENDING and enables the next entry (R206, R245). -/
def State.leaveTick (s : State) : State :=
  { ({ s with tick := false }.emit .tickFall) with pending := false, seq := .idle }

/-- Every element of R39 takes its reset value, and the pulse ports go to 0 (R280). The parameters, the draws of
the input ports, the trace, the turns to come and the answer on the host bus are no elements of R39. -/
def State.resetElements (s : State) : State :=
  { State.resetWith s.params with
    rdata := s.rdata
    cfgDraws := s.cfgDraws
    cfgDrawn := s.cfgDrawn
    rstHeld := s.rstHeld
    trace := s.trace
    sched := s.sched
    drawn := s.drawn }

/-- The output ports of R21. `spiTxData` is given while SPI_TX_START is 1. -/
structure OutPorts where
  adcStart : Bool
  spiCsN : Bool
  spiTxStart : Bool
  spiTxData : Option Byte
  out : Word
  tick : Bool
deriving DecidableEq, Repr

/-- What the output ports drive (R21, R31, R32, R35). -/
def State.ports (s : State) : OutPorts where
  adcStart := s.adcStart
  spiCsN := s.csN
  spiTxStart := s.spiTx.isSome
  spiTxData := s.spiTx
  out := s.outLatch
  tick := s.tick

/-- The bits of a byte in the order the external shifter puts them on the wire (R67, R146). -/
def wireBits (order : BitOrder) (b : Byte) : List Bool :=
  match order with
  | .msbFirst => [7, 6, 5, 4, 3, 2, 1, 0].map b.getLsbD
  | .lsbFirst => [0, 1, 2, 3, 4, 5, 6, 7].map b.getLsbD

end Sys2Proof.Machine
end

