-- ==== Sys2Proof/Machine/Operands.lean ====
section
/-! DEFINITION. The operand forms: the fields of the write data D that each register takes (R81, R83, R85, R88), and
the narrowing `trunc_N` of R8. -/

namespace Sys2Proof.Machine

/-- `trunc_N(v)`: the value modulo 2^N, for a width of at most 16 (R8). -/
def truncTo (width value : Nat) : Word := BitVec.ofNat 16 (value % 2 ^ width)

/-- CTRL.ARM of a write, D[0] (R83). -/
def armBit (d : Word) : Bool := d.getLsbD 0

/-- CTRL.CONFIGURE of a write, D[1] (R83). -/
def configureBit (d : Word) : Bool := d.getLsbD 1

/-- EXPCMD.ADDR of a write, D[15:8], which becomes frame byte 1 (R68, R88). -/
def addrByte (d : Word) : Byte := d.extractLsb' 8 8

/-- EXPCMD.DATA of a write, D[7:0], which becomes frame byte 2 (R68, R88). -/
def dataByte (d : Word) : Byte := d.extractLsb' 0 8

/-- RELOAD takes D[W_TMR-1:0] and ignores the rest (R81, R85). -/
def reloadValue (p : Params) (d : Word) : Word := truncTo p.wTmr d.toNat

/-- The sample of ADC_DONE(v): the low W_S bits of v (R205). -/
def sampleValue (p : Params) (v : Word) : Word := truncTo p.wS v.toNat

/-- The value latched for a filter result y: its low W_OUT bits (R208). -/
def latchValue (p : Params) (y : Nat) : Word := truncTo p.wOut y

end Sys2Proof.Machine
end

