-- ==== Sys2Proof/Machine/Flags.lean ====
section
/-! DEFINITION. The value of every host register, assembled from the state (R62, R83 to R91), the status word with its
flags (R84) among them. -/

namespace Sys2Proof.Machine

/-- The three-bit code of SEQ (R30, R84). -/
def SeqState.code : SeqState → Three
  | .idle => 0
  | .sampling => 1
  | .converting => 2
  | .done => 3
  | .fault => 4

/-- The three-bit code of EXP (R33). -/
def ExpState.code : ExpState → Three
  | .idle => 0
  | .b0 => 1
  | .b1 => 2
  | .b2 => 3
  | .fault => 4

/-- EXP_BUSY: a frame is in flight (R33, R84). -/
def ExpState.busy : ExpState → Bool
  | .b0 | .b1 | .b2 => true
  | .idle | .fault => false

/-- STATUS.CONFIGURED (R84). -/
def FMode.configured : FMode → Bool
  | .uncfg => false
  | .inactive | .active => true

/-- CTRL: ARM in bit 0, every other bit 0 (R83, R100). -/
def ctrlWord (s : State) : Word := (BitVec.ofBool s.arm).zeroExtend 16

/-- STATUS, from bit 15 down to bit 0 (R84, R102). -/
def statusWord (s : State) : Word :=
  0#1 ++ BitVec.ofBool s.errProto ++ BitVec.ofBool s.errSpiTo ++ BitVec.ofBool s.errAdcTo ++ BitVec.ofBool s.errOvr ++
    BitVec.ofBool s.exp.busy ++ BitVec.ofBool s.tick ++ BitVec.ofBool s.pending ++ s.seq.code ++ s.depth ++
    BitVec.ofBool (s.fmode == .active) ++ BitVec.ofBool s.fmode.configured

/-- RELOAD (R85, R104). -/
def reloadWord (s : State) : Word := s.reload

/-- COUNT (R86, R106). -/
def countWord (s : State) : Word := s.count

/-- OUT (R87, R108). -/
def outWord (s : State) : Word := s.outLatch

/-- EXPCMD: the address byte above the data byte (R88, R110). -/
def expcmdWord (s : State) : Word := s.expAddr ++ s.expData

/-- CFG: the latched nibble in bits 3:0 (R89, R112). -/
def cfgWord (s : State) : Word := s.cfgNib.zeroExtend 16

/-- Address 7 reads 0 (R90, R114). -/
def rsv7Word (_s : State) : Word := 0

/-- `RegRead(a)`: the value of host register a (R10, R62, R69). -/
def regRead (s : State) (a : Three) : Word :=
  match a.toNat with
  | 0 => ctrlWord s
  | 1 => statusWord s
  | 2 => reloadWord s
  | 3 => countWord s
  | 4 => outWord s
  | 5 => expcmdWord s
  | 6 => cfgWord s
  | _ => rsv7Word s

/-- STATUS[14:11]: the four error bits (R240, R242). -/
def errorBits (s : State) : BitVec 4 := (statusWord s).extractLsb' 11 4

end Sys2Proof.Machine
end

