-- ==== Sys2Proof/Machine/Filter.lean ====
section
/-! DEFINITION. FIR, the running-average filter: configure (R171 to R173) and update (R174 to R179). It has no step of
its own. -/

namespace Sys2Proof.Machine

/-- The mode that a configuration nibble selects (R171, R172). -/
def nibbleMode (n : Nibble) : FMode :=
  match n.toNat with
  | 0 | 1 | 2 | 3 => .active
  | _ => .inactive

/-- The depth that a configuration nibble selects: 0 to 2, 1 to 3, 2 to 4, 3 to 5, any other to 0 (R171, R172). -/
def nibbleDepth (n : Nibble) : Three :=
  match n.toNat with
  | 0 => 2
  | 1 => 3
  | 2 => 4
  | 3 => 5
  | _ => 0

/-- `Configure()`: sample CFG_IN once, set the mode and the depth, clear the history. A second configure is ignored and
raises ERR_PROTO (R171, R173). -/
def configure (s : State) : State :=
  match s.fmode with
  | .uncfg =>
    { s.takeCfgIn with
      cfgNib := s.cfgIn
      fmode := nibbleMode s.cfgIn
      depth := nibbleDepth s.cfgIn
      hist := Vector.replicate 5 0
      wp := 0 }
  | .inactive | .active => s.raise (.proto .configureTwice)

/-- The exact sum of the first d slots (R176, R179). -/
def histSum (hist : Vector Word 5) (d : Nat) : Nat := ((hist.toList.take d).map BitVec.toNat).sum

/-- `Update(raw)`: the state after it and the value it returns (R176 in mode ACTIVE, R177 in mode INACTIVE, and in mode
UNCFG as in INACTIVE, R178). -/
def update (s : State) (raw : Word) : State × Nat :=
  match s.fmode with
  | .active =>
    let hist := s.hist.setIfInBounds s.wp.toNat raw
    let d := s.depth.toNat
    ({ s with hist := hist, wp := BitVec.ofNat 3 ((s.wp.toNat + 1) % d) }, histSum hist d / d)
  | .inactive | .uncfg => (s, 0)

end Sys2Proof.Machine
end

