-- ==== Sys2Proof/Machine/Sampler.lean ====
section
/-! DEFINITION. SAMP, the timer-driven sampler: the timer (R200, R201), the tick sequencer (R202 to R207), arming and
disarming (R209, R210). A step that is not enabled leaves the state as it is. -/

namespace Sys2Proof.Machine

/-- `Expire()`: an expiry while PENDING = 1 is coalesced and raises ERR_OVR (R201). -/
def expire (s : State) : State :=
  { (if s.pending then s.raise .ovr else s) with pending := true }

/-- The count-enable pulse: COUNT counts down while armed, holds at 0, and expires on its way from 1 to 0 (R200). -/
def countDown (s : State) : State :=
  if s.arm && s.count != 0 then
    let t := { s with count := s.count - 1 }
    if t.count == 0 then expire t else t
  else s

/-- `ArmRequest()` (R209). -/
def armRequest (s : State) : State :=
  match s.fmode with
  | .uncfg => s.raise (.proto .armBeforeConfigure)
  | .inactive | .active => if s.arm then s else { s with arm := true, count := s.reload }

/-- `Disarm()`: COUNT and PENDING stay (R210). -/
def disarm (s : State) : State := { s with arm := false }

/-- The conversion starts: ADC_START pulses, and a bounded wait counts from 0 (R203). -/
def startConversion (s : State) : State :=
  let t := { s with adcStart := true }.emit .adcStart
  { (match t.params.adcTimeout with
      | .bounded _ => { t with adcWait := 0 }
      | .unbounded => t) with seq := .converting }

/-- SEQ.T3: filter the sample and latch the result, once per tick (R205, R208). -/
def takeSample (s : State) (v : Word) : State :=
  let r := update s (sampleValue s.params v)
  let y := latchValue s.params r.2
  { ({ r.1 with outLatch := y }.emit (.outWrite y)) with seq := .done }

/-- The wait for ADC_DONE is given up: SEQ is dead until reset, TICK and PENDING stay (R207, R247). -/
def adcGiveUp (s : State) : State := { s with seq := .fault }.raise .adcTo

/-- A timeout step exists only where its parameter is bounded (R147, R207). -/
def isBounded : Timeout → Bool
  | .unbounded => false
  | .bounded _ => true

/-- TCE (R200). -/
def execTce (s : State) : Host.Outcome State Fault Refusal := .next (countDown s)

/-- SEQ.T1, enabled when the tick is due (R202). -/
def execSeqT1 (s : State) : Host.Outcome State Fault Refusal :=
  .next (if s.tickDue then s.enterTick else s)

/-- SEQ.T2, enabled when SEQ = SAMPLING; it does not read ARM (R203). -/
def execSeqT2 (s : State) : Host.Outcome State Fault Refusal :=
  .next (if s.seq == .sampling then startConversion s else s)

/-- ADC_DONE(v): SEQ.T3 when SEQ = CONVERTING, and ignored in any other state (R205). -/
def execAdcDone (v : Word) (s : State) : Host.Outcome State Fault Refusal :=
  .next (if s.seq == .converting then takeSample s v else s)

/-- SEQ.T4, enabled when SEQ = DONE (R206). -/
def execSeqT4 (s : State) : Host.Outcome State Fault Refusal :=
  .next (if s.seq == .done then s.leaveTick else s)

/-- ADC_TIMEOUT, enabled at any point of a bounded wait (R207). -/
def execAdcTimeout (s : State) : Host.Outcome State Fault Refusal :=
  .next (if isBounded s.params.adcTimeout && s.seq == .converting then adcGiveUp s else s)

end Sys2Proof.Machine
end

