-- ==== Sys2Proof/Machine/Expander.lean ====
section
/-! DEFINITION. SPIX, the framing engine: the frame start (R141), the hand-over of a byte (R142), the completion of a
byte (R143, R144) and the timeout (R147). -/

namespace Sys2Proof.Machine

/-- `SendByte(b)`: hand one byte to the external shifter; a bounded wait counts from 0 (R142). -/
def sendByte (s : State) (b : Byte) : State :=
  let t := { s with spiTx := some b }.emit (.tx b)
  match t.params.spiTimeout with
  | .bounded _ => { t with spiWait := 0 }
  | .unbounded => t

/-- `StartFrame()`: chip select is asserted before the first byte is handed over (R141). -/
def startFrame (s : State) : State :=
  sendByte { ({ s with csN := false }.emit .csAssert) with exp := .b0 } s.params.writeOpcode

/-- Transfer-complete from the shifter: the next byte, or the end of the frame; ignored where no byte is in flight
(R143, R144). -/
def byteDone (s : State) : State :=
  match s.exp with
  | .b0 => sendByte { s with exp := .b1 } s.expAddr
  | .b1 => sendByte { s with exp := .b2 } s.expData
  | .b2 => { ({ s with csN := true }.emit .csDeassert) with exp := .idle }
  | .idle | .fault => s

/-- The number of the byte in flight (R147). -/
def ExpState.byteIndex : ExpState → Nat
  | .b0 => 0
  | .b1 => 1
  | .b2 | .idle | .fault => 2

/-- The frame is abandoned: chip select is released, and the engine is dead until reset (R147, R247). -/
def spiGiveUp (s : State) : State :=
  { ({ s with csN := true }.emit .csDeassert) with exp := .fault }.raise (.spiTo s.exp.byteIndex)

/-- SPI_DONE (R143). -/
def execSpiDone (s : State) : Host.Outcome State Fault Refusal := .next (byteDone s)

/-- SPI_TIMEOUT, enabled at any point of a bounded wait (R147). -/
def execSpiTimeout (s : State) : Host.Outcome State Fault Refusal :=
  .next (if isBounded s.params.spiTimeout && s.exp.busy then spiGiveUp s else s)

end Sys2Proof.Machine
end

