-- ==== Sys2Proof/Machine/HostBus.lean ====
section
/-! DEFINITION. The 16 host transactions (R100 to R115). A read returns RDATA and changes nothing else (R62). -/

namespace Sys2Proof.Machine

/-- The write rule of CTRL: configure if D[1], then arm or disarm by D[0] (R101). -/
def writeCtrl (s : State) (d : Word) : State :=
  let t := if configureBit d then configure s else s
  if armBit d then armRequest t else disarm t

/-- The write rule of RELOAD: COUNT is not changed (R105, R211). -/
def writeReload (s : State) (d : Word) : State := { s with reload := reloadValue s.params d }

/-- The write rule of EXPCMD: start a frame when idle, raise ERR_PROTO when busy, nothing in FAULT (R111). -/
def writeExpcmd (s : State) (d : Word) : State :=
  match s.exp with
  | .idle => startFrame { s with expAddr := addrByte d, expData := dataByte d }
  | .b0 | .b1 | .b2 => s.raise (.proto .writeWhileBusy)
  | .fault => s

/-- `RegWrite(a, v)`: the write rule of host register a (R10, R63). -/
def regWrite (s : State) (a : Three) (v : Word) : State :=
  match a.toNat with
  | 0 => writeCtrl s v
  | 2 => writeReload s v
  | 5 => writeExpcmd s v
  | _ => s

/-- RD.CTRL (R100). -/
def execRdCtrl (s : State) : Host.Outcome State Fault Refusal := .next (s.respond (regRead s 0))

/-- WR.CTRL (R101). -/
def execWrCtrl (d : Word) (s : State) : Host.Outcome State Fault Refusal := .next (regWrite s 0 d)

/-- RD.STATUS (R102). -/
def execRdStatus (s : State) : Host.Outcome State Fault Refusal := .next (s.respond (regRead s 1))

/-- WR.STATUS, ignored (R103). -/
def execWrStatus (d : Word) (s : State) : Host.Outcome State Fault Refusal := .next (regWrite s 1 d)

/-- RD.RELOAD (R104). -/
def execRdReload (s : State) : Host.Outcome State Fault Refusal := .next (s.respond (regRead s 2))

/-- WR.RELOAD (R105). -/
def execWrReload (d : Word) (s : State) : Host.Outcome State Fault Refusal := .next (regWrite s 2 d)

/-- RD.COUNT (R106). -/
def execRdCount (s : State) : Host.Outcome State Fault Refusal := .next (s.respond (regRead s 3))

/-- WR.COUNT, ignored (R107). -/
def execWrCount (d : Word) (s : State) : Host.Outcome State Fault Refusal := .next (regWrite s 3 d)

/-- RD.OUT (R108). -/
def execRdOut (s : State) : Host.Outcome State Fault Refusal := .next (s.respond (regRead s 4))

/-- WR.OUT, ignored (R109). -/
def execWrOut (d : Word) (s : State) : Host.Outcome State Fault Refusal := .next (regWrite s 4 d)

/-- RD.EXPCMD (R110). -/
def execRdExpcmd (s : State) : Host.Outcome State Fault Refusal := .next (s.respond (regRead s 5))

/-- WR.EXPCMD (R111). -/
def execWrExpcmd (d : Word) (s : State) : Host.Outcome State Fault Refusal := .next (regWrite s 5 d)

/-- RD.CFG (R112). -/
def execRdCfg (s : State) : Host.Outcome State Fault Refusal := .next (s.respond (regRead s 6))

/-- WR.CFG, ignored (R113). -/
def execWrCfg (d : Word) (s : State) : Host.Outcome State Fault Refusal := .next (regWrite s 6 d)

/-- RD.RSV7 (R114). -/
def execRdRsv7 (s : State) : Host.Outcome State Fault Refusal := .next (s.respond (regRead s 7))

/-- WR.RSV7, ignored (R115). -/
def execWrRsv7 (d : Word) (s : State) : Host.Outcome State Fault Refusal := .next (regWrite s 7 d)

end Sys2Proof.Machine
end

