-- ==== Sys2Proof/Machine/ResetStep.lean ====
section
/-! DEFINITION. RESET, the step of the RESET agent (R280 to R283). -/

namespace Sys2Proof.Machine

/-- The work of RESET: a frame in flight is cut off, every element takes its reset value (R280, R282). -/
def resetBlock (s : State) : State :=
  (if s.csN then s else s.emit .csDeassert).resetElements.emit .reset

/-- RESET, always enabled (R280). -/
def execReset (s : State) : Host.Outcome State Fault Refusal := .next (resetBlock s)

end Sys2Proof.Machine
end

