-- ==== Sys2Proof/Machine/Schedule.lean ====
section
/-! DEFINITION. How the next step is chosen: the turn the outside offers (R3, R12), what it does to the ports (R21),
CLK edges and the wait counters (R37), RST held at 1 (R280), and the order in which the events of one CLK cycle take
effect (R243). -/

namespace Sys2Proof.Machine

/-- The turn that comes next: the oldest one listed, or a free one where none is listed (R12). -/
def State.nextTurn (s : State) : Turn :=
  match s.sched with
  | t :: _ => t
  | [] => Config.freeTurn s.drawn

/-- The next turn is used up. -/
def State.popTurn (s : State) : State :=
  match s.sched with
  | _ :: ts => { s with sched := ts }
  | [] => { s with drawn := s.drawn + 1 }

/-- RST in the cycle of a turn: 1 for RESET, 0 for any other step and for a CLK edge (R280). -/
def rstAfter (t : Turn) : Bool :=
  match t with
  | .event .reset => true
  | .host _ | .event _ | .clk => false

/-- The turn begins: it is used up, the pulses of the last one end, and no read has answered yet (R21). -/
def State.takeTurn (s : State) : State :=
  { s.popTurn with
    rdata := none
    adcStart := false
    spiTx := none
    rstHeld := rstAfter s.nextTurn }

/-- What a turn does. -/
inductive Action where
  /-- One atomic step of an agent (R3). -/
  | instr (i : Instr)
  /-- A CLK edge passes (R37). -/
  | clock
  /-- RST stays 1 for another cycle (R280). -/
  | heldReset
deriving DecidableEq, Repr

/-- The action of the next turn. While RST stays 1, a further RESET repeats the reset and emits nothing (R280). -/
def State.action (s : State) : Action :=
  match s.nextTurn with
  | .host w => .instr (decode w)
  | .event e => if e == .reset && s.rstHeld then .heldReset else .instr e.instr
  | .clk => .clock

/-- A bounded wait for ADC_DONE is in progress (R207). -/
def State.adcWaits (s : State) : Bool := isBounded s.params.adcTimeout && s.seq == .converting

/-- A bounded wait for SPI_DONE is in progress (R147). -/
def State.spiWaits (s : State) : Bool := isBounded s.params.spiTimeout && s.exp.busy

/-- A count of cycles has reached a bound (R37). -/
def reached (bound : Timeout) (count : Nat) : Bool :=
  match bound with
  | .unbounded => false
  | .bounded n => decide (n ≤ count)

/-- The wait for ADC_DONE has reached its bound (R207). -/
def State.adcDue (s : State) : Bool := s.adcWaits && reached s.params.adcTimeout s.adcWait

/-- The wait for SPI_DONE has reached its bound (R147). -/
def State.spiDue (s : State) : Bool := s.spiWaits && reached s.params.spiTimeout s.spiWait

/-- The steps of TIMEOUT that are due, each a step of its own (R3, R147, R207). -/
def State.dueTimeouts (s : State) : List Turn :=
  (if s.adcDue then [.event .adcTimeout] else []) ++ (if s.spiDue then [.event .spiTimeout] else [])

/-- Each bounded wait in progress has lasted one more cycle (R37). -/
def State.countWaits (s : State) : State :=
  { s with
    adcWait := if s.adcWaits then s.adcWait + 1 else s.adcWait
    spiWait := if s.spiWaits then s.spiWait + 1 else s.spiWait }

/-- A CLK edge with RST = 0 counts the waits; the timeout of a wait whose count reaches its bound comes next (R37). -/
def clockEdge (s : State) : State :=
  { s.countWaits with sched := s.countWaits.dueTimeouts ++ s.sched }

/-- The place of a turn among the events of its CLK cycle: a lower rank takes effect first (R243). Where R243 lists no
order the ranks are the model's choice: for pairs of events log 13, for two host transactions (R64) log 24. -/
def turnRank (t : Turn) : Nat :=
  match t with
  | .host w =>
    match decode w with
    | .rdCtrl | .rdStatus | .rdReload | .rdCount | .rdOut | .rdExpcmd | .rdCfg | .rdRsv7 => 1
    | .wrExpcmd _ => 2
    | .wrCtrl _ | .wrStatus _ | .wrCount _ | .wrOut _ | .wrCfg _ | .wrRsv7 _ => 6
    | .wrReload _ => 7
    -- no word decodes to a step of another agent
    | .tce | .seqT1 | .seqT2 | .adcDone _ | .seqT4 | .adcTimeout | .spiDone | .spiTimeout | .reset => 6
  | .event .spiDone => 3
  | .event .spiTimeout => 4
  | .event (.adcDone _) => 3
  | .event .adcTimeout => 4
  | .event .seqT2 => 3
  | .event .seqT4 => 3
  | .event .tce => 4
  | .event .seqT1 => 5
  | .clk => 8
  | .event .reset => 9

/-- Place a turn behind every turn of the same or a lower rank. -/
def insertTurn (t : Turn) : List Turn → List Turn
  | [] => [t]
  | u :: us => if turnRank u ≤ turnRank t then u :: insertTurn t us else t :: u :: us

/-- SPI_DONE in the cycle of an SPI_TIMEOUT ends the wait that the timeout is about, so the timeout is no longer enabled:
completion wins (R243). After an ADC_DONE the state itself says so. -/
def dropBeatenTimeout (events : List Turn) : List Turn :=
  if events.contains (.event .spiDone) then events.filter (· != .event .spiTimeout) else events

/-- The events of one CLK cycle in the order in which they take effect (R243; log 13, and log 24 for two host
transactions). Events of the same rank keep the order in which they are offered. -/
def resolveCycle (events : List Turn) : List Turn :=
  (dropBeatenTimeout events).foldl (fun done t => insertTurn t done) []

/-- While RST stays 1 from the cycle before, no other step of the cycle is taken (R280). -/
def State.admitCycle (s : State) (events : List Turn) : List Turn :=
  if s.rstHeld && events.contains (.event .reset) then [.event .reset] else events

/-- The outside offers the events of one CLK cycle, all of them before what is already listed. That a timeout which a `clk`
turn found due and which is still listed then comes after them is the model's choice (log 25). -/
def State.offerCycle (s : State) (events : List Turn) : State :=
  { s with sched := resolveCycle (s.admitCycle events) ++ s.sched }

/-- The word is the next thing on the host bus. A number of more than 20 bits is no word and leaves the bus alone. -/
def State.placeWord (s : State) (w : Nat) : State :=
  if w < 2 ^ 20 then { s with sched := .host (BitVec.ofNat 20 w) :: s.sched } else s

end Sys2Proof.Machine
end

