-- ==== Sys2Proof/Machine/Dispatch.lean ====
section
/-! DEFINITION. One arm per row of the opcode table. -/

namespace Sys2Proof.Machine

def exec (i : Instr) (s : State) : Host.Outcome State Fault Refusal :=
  match i with
  | .rdCtrl => Sys2Proof.Machine.execRdCtrl s
  | .wrCtrl d => Sys2Proof.Machine.execWrCtrl d s
  | .rdStatus => Sys2Proof.Machine.execRdStatus s
  | .wrStatus d => Sys2Proof.Machine.execWrStatus d s
  | .rdReload => Sys2Proof.Machine.execRdReload s
  | .wrReload d => Sys2Proof.Machine.execWrReload d s
  | .rdCount => Sys2Proof.Machine.execRdCount s
  | .wrCount d => Sys2Proof.Machine.execWrCount d s
  | .rdOut => Sys2Proof.Machine.execRdOut s
  | .wrOut d => Sys2Proof.Machine.execWrOut d s
  | .rdExpcmd => Sys2Proof.Machine.execRdExpcmd s
  | .wrExpcmd d => Sys2Proof.Machine.execWrExpcmd d s
  | .rdCfg => Sys2Proof.Machine.execRdCfg s
  | .wrCfg d => Sys2Proof.Machine.execWrCfg d s
  | .rdRsv7 => Sys2Proof.Machine.execRdRsv7 s
  | .wrRsv7 d => Sys2Proof.Machine.execWrRsv7 d s
  | .tce => Sys2Proof.Machine.execTce s
  | .seqT1 => Sys2Proof.Machine.execSeqT1 s
  | .seqT2 => Sys2Proof.Machine.execSeqT2 s
  | .adcDone v => Sys2Proof.Machine.execAdcDone v s
  | .seqT4 => Sys2Proof.Machine.execSeqT4 s
  | .adcTimeout => Sys2Proof.Machine.execAdcTimeout s
  | .spiDone => Sys2Proof.Machine.execSpiDone s
  | .spiTimeout => Sys2Proof.Machine.execSpiTimeout s
  | .reset => Sys2Proof.Machine.execReset s

end Sys2Proof.Machine
end

