-- ==== Sys2Proof/Machine/Step.lean ====
section
/-! DEFINITION. One step: the next turn's action (R12), refused where the parameter set is illegal (R7). -/

namespace Sys2Proof.Machine

/-- One step of the model. -/
def step (s : State) : Host.Outcome State Fault Refusal :=
  if s.params.legal then
    match s.action with
    | .instr i => exec i s.takeTurn
    | .clock => .next (clockEdge s.takeTurn)
    | .heldReset => .next s.takeTurn.resetElements
  else .refused .illegalParameters

/-- `s` with the word `w`, of `nbits` bits, as the next transaction on the host bus. -/
def State.withFetchWord (s : State) (nbits w : Nat) : State := s.placeWord (w % 2 ^ nbits)

end Sys2Proof.Machine
end

