-- ==== Sys2Proof/Machine/Assembler.lean ====
section
/-! DEFINITION. The host's side of the bus: the assembler statements (R95, R97), the pseudo-instructions (R96), and the
host programs of the boot order and the LCD initialisation (R285, R286). Text is a list of characters. -/

namespace Sys2Proof.Machine

/-- The register names of R95. -/
inductive HostReg where
  | ctrl
  | status
  | reload
  | count
  | out
  | expcmd
  | cfg
  | rsv7
deriving DecidableEq, Repr

/-- The address of a register (R69). -/
def HostReg.addr : HostReg → Three
  | .ctrl => 0
  | .status => 1
  | .reload => 2
  | .count => 3
  | .out => 4
  | .expcmd => 5
  | .cfg => 6
  | .rsv7 => 7

/-- The two statements of R95. -/
inductive HostStmt where
  | rd (r : HostReg)
  | wr (r : HostReg) (imm : Word)
deriving DecidableEq, Repr

/-- The word of a statement: a read has D = 0 (R82, R95). -/
def HostStmt.word : HostStmt → HtWord
  | .rd r => htWord false r.addr 0
  | .wr r imm => htWord true r.addr imm

/-- One element of a host program. -/
inductive HostOp where
  | stmt (st : HostStmt)
  /-- Read the register again until RDATA under the mask is the value (R96). -/
  | poll (r : HostReg) (mask val : Word)
  /-- Nothing on the bus for some time, counted in tenths of the host's time unit (R96, D26). -/
  | wait (tenths : Nat)
deriving DecidableEq, Repr

/-- The word that an element puts on the bus (R96). -/
def HostOp.word : HostOp → Option HtWord
  | .stmt st => some st.word
  | .poll r _ _ => some (HostStmt.rd r).word
  | .wait _ => none

/-- An element is finished once its transaction is done; a POLL only when RDATA has the polled value (R96). -/
def HostOp.finished (op : HostOp) (rdata : Option Word) : Bool :=
  match op with
  | .stmt _ | .wait _ => true
  | .poll _ mask val => rdata.any fun v => v &&& mask == val

/-- What is left of a host program after its first element's turn answered `rdata`. -/
def hostAdvance (prog : List HostOp) (rdata : Option Word) : List HostOp :=
  match prog with
  | [] => []
  | op :: rest => if op.finished rdata then rest else op :: rest

/-- The constants of a host program (R96); the source gives no value for any of them. -/
structure LcdConstants where
  gpioA : Byte
  gpioB : Byte
  iodirA : Byte
  iodirB : Byte
  /-- RS, the register-select bit of port A. -/
  rs : Byte
  /-- E, the enable bit of port A. -/
  e : Byte
  tCmd : Nat
  tData : Nat
  prime1 : Byte
  prime2 : Byte
  funcset : Byte
  dispctl : Byte
  entry : Byte
  clear : Byte
  home : Byte
deriving DecidableEq, Repr

/-- The example values of D26. -/
def LcdConstants.example26 : LcdConstants where
  gpioA := 0x12
  gpioB := 0x13
  iodirA := 0x00
  iodirB := 0x01
  rs := 0x01
  e := 0x02
  tCmd := 40
  tData := 1
  prime1 := 0x33
  prime2 := 0x32
  funcset := 0x38
  dispctl := 0x0C
  entry := 0x06
  clear := 0x01
  home := 0x02

/-- The pseudo-instructions of R96. -/
inductive Pseudo where
  | poll (r : HostReg) (mask val : Word)
  | expw (a d : Byte)
  | config
  | arm
  | cfgarm
  | disarm
  | wait (tenths : Nat)
  | lcdcmd (c : Byte)
  | lcdchr (d : Byte)
deriving DecidableEq, Repr

/-- EXPW: write EXPCMD, then poll EXP_BUSY to 0 (R96). -/
def expwOps (a d : Byte) : List HostOp := [.stmt (.wr .expcmd (a ++ d)), .poll .status 0x0400 0x0000]

/-- The expansion of a pseudo-instruction (R96). -/
def Pseudo.expand (k : LcdConstants) : Pseudo → List HostOp
  | .poll r mask val => [.poll r mask val]
  | .expw a d => expwOps a d
  | .config => [.stmt (.wr .ctrl 0x0002)]
  | .arm => [.stmt (.wr .ctrl 0x0001)]
  | .cfgarm => [.stmt (.wr .ctrl 0x0003)]
  | .disarm => [.stmt (.wr .ctrl 0x0000)]
  | .wait n => [.wait n]
  | .lcdcmd c =>
    expwOps k.gpioA 0 ++ expwOps k.gpioB c ++ expwOps k.gpioA k.e ++ expwOps k.gpioA 0 ++ [.wait k.tCmd]
  | .lcdchr d =>
    expwOps k.gpioA k.rs ++ expwOps k.gpioB d ++ expwOps k.gpioA (k.rs ||| k.e) ++ expwOps k.gpioA k.rs ++
      [.wait k.tData]

/-- The LCD initialisation: seven commands, in this order (R286). -/
def lcdInit (k : LcdConstants) : List HostOp :=
  [k.prime1, k.prime2, k.funcset, k.dispctl, k.entry, k.clear, k.home].flatMap fun c => (Pseudo.lcdcmd c).expand k

/-- The boot order of R285 after the reset, without the display text: configure, expander directions, LCD, the period,
and the arm last. -/
def bootProgram (k : LcdConstants) (period : Word) : List HostOp :=
  Pseudo.config.expand k ++ expwOps k.iodirA 0 ++ expwOps k.iodirB 0 ++ lcdInit k ++
    [.stmt (.wr .reload period)] ++ Pseudo.arm.expand k

/-- The named errors of the assembler (R95). -/
inductive AsmError where
  | unknownRegister
  | badLiteral
  | immediateOutOfRange
  | unknownStatement
deriving DecidableEq, Repr

/-- The value of a digit. -/
def digitValue (c : Char) : Option Nat :=
  let n := c.toNat
  if 48 ≤ n ∧ n ≤ 57 then some (n - 48)
  else if 97 ≤ n ∧ n ≤ 102 then some (n - 87)
  else if 65 ≤ n ∧ n ≤ 70 then some (n - 55)
  else none

/-- The value of a non-empty run of digits in a base. -/
def digits (base : Nat) (cs : List Char) : Option Nat :=
  if cs.isEmpty then none
  else cs.foldl (fun acc c => do
    let n ← acc
    let d ← digitValue c
    if d < base then some (n * base + d) else none) (some 0)

/-- A decimal, hexadecimal or binary literal (R95). -/
def literal (cs : List Char) : Option Nat :=
  match cs with
  | '0' :: 'x' :: ds => digits 16 ds
  | '0' :: 'b' :: ds => digits 2 ds
  | _ => digits 10 cs

/-- An immediate below a bound: refused by name when it is no literal or out of range, never truncated (R95). -/
def immediate (bound : Nat) (cs : List Char) : Except AsmError Nat :=
  match literal cs with
  | none => .error .badLiteral
  | some n => if n < bound then .ok n else .error .immediateOutOfRange

/-- A 16-bit immediate. -/
def imm16 (cs : List Char) : Except AsmError Word := (immediate (2 ^ 16) cs).map (BitVec.ofNat 16)

/-- A byte operand. -/
def imm8 (cs : List Char) : Except AsmError Byte := (immediate (2 ^ 8) cs).map (BitVec.ofNat 8)

/-- The register with a number 0..7 (R95). -/
def regByNumber (n : Nat) : Except AsmError HostReg :=
  match n with
  | 0 => .ok .ctrl
  | 1 => .ok .status
  | 2 => .ok .reload
  | 3 => .ok .count
  | 4 => .ok .out
  | 5 => .ok .expcmd
  | 6 => .ok .cfg
  | 7 => .ok .rsv7
  | _ => .error .unknownRegister

/-- A register by its name or its number (R95). -/
def regOperand (cs : List Char) : Except AsmError HostReg :=
  if cs = ['C', 'T', 'R', 'L'] then .ok .ctrl
  else if cs = ['S', 'T', 'A', 'T', 'U', 'S'] then .ok .status
  else if cs = ['R', 'E', 'L', 'O', 'A', 'D'] then .ok .reload
  else if cs = ['C', 'O', 'U', 'N', 'T'] then .ok .count
  else if cs = ['O', 'U', 'T'] then .ok .out
  else if cs = ['E', 'X', 'P', 'C', 'M', 'D'] then .ok .expcmd
  else if cs = ['C', 'F', 'G'] then .ok .cfg
  else if cs = ['R', 'S', 'V', '7'] then .ok .rsv7
  else match literal cs with
    | some n => regByNumber n
    | none => .error .unknownRegister

/-- The line without its comment, which a semicolon starts (R95). -/
def dropComment (line : List Char) : List Char := line.takeWhile (· ≠ ';')

/-- The line without its label, which a colon ends (R95). DESIGN CHOICE (log 19): R95 does not say what text may be the
label's name; whatever stands before the first colon is dropped unchecked, even nothing or a whole statement. Unsafe where
that text is no name: a statement in it is lost without an error. -/
def dropLabel (line : List Char) : List Char :=
  if line.contains ':' then (line.dropWhile (· ≠ ':')).drop 1 else line

/-- Blank space between tokens. -/
def isBlank (c : Char) : Bool := c = ' ' || c = '\t'

/-- The tokens of a line: runs of other characters, and each comma by itself. -/
def tokens (line : List Char) : List (List Char) :=
  let put := fun (cur : List Char) (out : List (List Char)) => if cur.isEmpty then out else cur :: out
  let r := line.foldr (fun c (acc : List Char × List (List Char)) =>
    if isBlank c then ([], put acc.1 acc.2)
    else if c = ',' then ([], [','] :: put acc.1 acc.2)
    else (c :: acc.1, acc.2)) ([], [])
  put r.1 r.2

/-- The tokens of a line's statement. -/
def statementTokens (line : List Char) : List (List Char) := tokens (dropLabel (dropComment line))

/-- The statement of a line, where it is one of the two of R95. -/
def parseStmt (ts : List (List Char)) : Except AsmError HostStmt :=
  match ts with
  | [['R', 'D'], r] => (regOperand r).map .rd
  | [['W', 'R'], r, [','], n] => do
    let reg ← regOperand r
    let imm ← imm16 n
    return .wr reg imm
  | _ => .error .unknownStatement

/-- The word that one line of assembler text assembles to; a line of blank space, a label or a comment alone has
none (R95; log 19). -/
def assembleLine (line : List Char) : Except AsmError (Option HtWord) :=
  match statementTokens line with
  | [] => .ok none
  | ts => (parseStmt ts).map fun st => some st.word

/-- The pseudo-instruction of a line, where it is one of R96. DESIGN CHOICE (log 19): every operand in text is a literal;
the name of a host-program constant such as T_CMD or GPIOA, as R96's table and P3 write it, is refused by name, and the
constants come in through `LcdConstants` alone. Safe: the line is refused. -/
def parsePseudo (ts : List (List Char)) : Except AsmError Pseudo :=
  match ts with
  | [['P', 'O', 'L', 'L'], r, [','], m, [','], v] => do
    let reg ← regOperand r
    let mask ← imm16 m
    let val ← imm16 v
    return .poll reg mask val
  | [['E', 'X', 'P', 'W'], a, [','], d] => do
    let addr ← imm8 a
    let data ← imm8 d
    return .expw addr data
  | [['C', 'O', 'N', 'F', 'I', 'G']] => .ok .config
  | [['A', 'R', 'M']] => .ok .arm
  | [['C', 'F', 'G', 'A', 'R', 'M']] => .ok .cfgarm
  | [['D', 'I', 'S', 'A', 'R', 'M']] => .ok .disarm
  | [['W', 'A', 'I', 'T'], n] =>
    match literal n with
    | some units => .ok (.wait (10 * units))
    | none => .error .badLiteral
  | [['L', 'C', 'D', 'C', 'M', 'D'], c] => (imm8 c).map .lcdcmd
  | [['L', 'C', 'D', 'C', 'H', 'R'], d] => (imm8 d).map .lcdchr
  | _ => .error .unknownStatement

/-- The host operations of one line, a statement of R95 or a pseudo-instruction of R96. -/
def lineOps (k : LcdConstants) (line : List Char) : Except AsmError (List HostOp) :=
  match statementTokens line with
  | [] => .ok []
  | ts =>
    match parseStmt ts with
    | .ok st => .ok [.stmt st]
    | .error .unknownStatement => (parsePseudo ts).map (Pseudo.expand k)
    | .error e => .error e

/-- One hexadecimal digit, in capitals. -/
def hexDigit (n : Nat) : Char := if n < 10 then Char.ofNat (48 + n) else Char.ofNat (55 + n)

/-- A word as five hexadecimal digits (R95). -/
def hexText (w : HtWord) : List Char :=
  '0' :: 'x' :: [16, 12, 8, 4, 0].map fun k => hexDigit (w.extractLsb' k 4).toNat

end Sys2Proof.Machine
end

