-- ==== Sys2Proof/Safety.lean ====
section
/-! DEFINITION. The terms the claims use: the invariants of R40, the runs outside the source's contract (R242), the
host's duties (R254), the orders of the trace (R71), the filter's closed form (R182) and fair runs (R295). -/

namespace Sys2Proof.Machine

/-- The outcome of a step. -/
abbrev Out := Host.Outcome State Fault Refusal

/-- Run one step after another, stopping at the first that answers no next state. -/
def execAll : List Instr → State → Out
  | [], s => .next s
  | i :: is, s =>
    match exec i s with
    | .next t => execAll is t
    | .fault r => .fault r
    | .refused r => .refused r

/-- Every word whose bits 19:16 are those of `pattern` decodes to the step that `f` gives for its field D (R92). -/
def DecodesAs (pattern : HtWord) (f : Word → Instr) : Prop :=
  ∀ w : HtWord, w &&& 0xF0000#20 = pattern → decode w = f (dField w)

/-- A word of a host transaction as the assembler writes it: a read with D = 0 (R82, R95). -/
def canonicalWord (w : HtWord) : HtWord := if wField w then w else w &&& 0xF0000#20

/-- The invariants of R40, with the widths of R23, R27 and R28, the legal parameters of R7, the filter configured
while a tick is in progress (R178), and the reset values while RST stays 1 (R280). -/
structure State.Inv (s : State) : Prop where
  legal : s.params.legal = true
  activeDepth : s.fmode = .active ↔ 2 ≤ s.depth.toNat ∧ s.depth.toNat ≤ 5
  otherDepth : s.fmode ≠ .active ↔ s.depth = 0
  activeWp : s.fmode = .active → s.wp.toNat < s.depth.toNat
  legalWp : s.wp.toNat ≤ 4
  armConfigured : s.arm = true → s.fmode ≠ .uncfg
  tickConfigured : s.seq ≠ .idle → s.fmode ≠ .uncfg
  tickPending : s.seq = .sampling ∨ s.seq = .converting ∨ s.seq = .done → s.pending = true
  tickHigh : s.tick = true ↔ s.seq = .sampling ∨ s.seq = .converting ∨ s.seq = .done ∨ s.seq = .fault
  csAsserted : s.csN = false ↔ s.exp = .b0 ∨ s.exp = .b1 ∨ s.exp = .b2
  adcFault : s.seq = .fault → s.errAdcTo = true
  spiFault : s.exp = .fault → s.errSpiTo = true
  histFits : ∀ x ∈ s.hist.toList, x.toNat ≤ 2 ^ s.params.wS - 1
  outFits : s.outLatch.toNat ≤ 2 ^ s.params.wOut - 1
  reloadFits : s.reload.toNat ≤ 2 ^ s.params.wTmr - 1
  countFits : s.count.toNat ≤ 2 ^ s.params.wTmr - 1
  heldAtReset : s.rstHeld = true → s.resetElements = s

/-- No error bit is set: the premise of a claim about outputs (R242). -/
def errorFree (s : State) : Bool := errorBits s == 0#4

/-- Which error bits are set in `t` and were not in `s`: ERR_OVR, ERR_ADC_TO, ERR_SPI_TO, ERR_PROTO (R36, R240). -/
def newErrors (s t : State) : List Bool :=
  [!s.errOvr && t.errOvr, !s.errAdcTo && t.errAdcTo, !s.errSpiTo && t.errSpiTo, !s.errProto && t.errProto]

/-- A host transaction that breaks no duty that the block can check (R254, R289, R290). -/
def keepsDuty (s : State) : Instr → Bool
  | .wrExpcmd _ => !s.exp.busy
  | .wrCtrl d =>
    (!configureBit d || !s.fmode.configured) && (!armBit d || configureBit d || s.fmode.configured)
  | _ => true

/-- How far a tick has come in the trace (R71, R212). -/
inductive TickPhase where
  | none
  | raised
  | started
  | latched
deriving DecidableEq, Repr

/-- The order of SAMP's events: TICK_RISE, ADC_START, OUT_WRITE, TICK_FALL, and again (R71); a reset ends a tick. -/
def tickNext : TickPhase → TraceEvent → Option TickPhase
  | .none, .tickRise => some .raised
  | .raised, .adcStart => some .started
  | .started, .outWrite _ => some .latched
  | .latched, .tickFall => some .none
  | _, .reset => some .none
  | p, .csAssert => some p
  | p, .tx _ => some p
  | p, .csDeassert => some p
  | _, _ => none

/-- The phase at the end of a trace, if every event of it came in its order. -/
def tickPhase (trace : List TraceEvent) : Option TickPhase := trace.foldlM tickNext .none

/-- The phase in which SEQ stands (R201, R212). -/
def SeqState.phase : SeqState → TickPhase
  | .idle => .none
  | .sampling => .raised
  | .converting => .started
  | .done => .latched
  | .fault => .started

/-- Where a frame stands in the trace (R71, R145). -/
inductive FramePhase where
  /-- Chip select is high after a whole frame, or before any. -/
  | closed
  /-- Chip select is low and these bytes were sent. -/
  | sent (bytes : List Byte)
  /-- Chip select rose before the third byte was sent: by a timeout or a reset. -/
  | cut
deriving DecidableEq, Repr

/-- The order of SPIX's events: CS_ASSERT, three bytes of which the first is the write opcode, CS_DEASSERT, with
nothing of SPIX between them (R71, R145). After a frame that was cut no SPIX event comes before a reset. -/
def frameNext (opcode : Byte) : FramePhase → TraceEvent → Option FramePhase
  | .closed, .csAssert => some (.sent [])
  | .sent [], .tx b => if b = opcode then some (.sent [b]) else none
  | .sent [a], .tx b => some (.sent [a, b])
  | .sent [a, b], .tx c => some (.sent [a, b, c])
  | .sent bytes, .csDeassert => if bytes.length = 3 then some .closed else some .cut
  | .closed, .reset => some .closed
  | .cut, .reset => some .closed
  | p, .tickRise => some p
  | p, .adcStart => some p
  | p, .outWrite _ => some p
  | p, .tickFall => some p
  | _, _ => none

/-- The frame phase at the end of a trace, if every event of it came in its order. -/
def framePhase (opcode : Byte) (trace : List TraceEvent) : Option FramePhase := trace.foldlM (frameNext opcode) .closed

/-- The frame phase agrees with EXP and the frame latch (R143, R147). -/
def frameAgrees (s : State) (p : FramePhase) : Bool :=
  match s.exp with
  | .idle => p == .closed
  | .b0 => p == .sent [s.params.writeOpcode]
  | .b1 => p == .sent [s.params.writeOpcode, s.expAddr]
  | .b2 => p == .sent [s.params.writeOpcode, s.expAddr, s.expData]
  | .fault => p == .closed || p == .cut

/-- An event of SPIX (R66). -/
def TraceEvent.ofSpix : TraceEvent → Bool
  | .csAssert | .tx _ | .csDeassert => true
  | .tickRise | .adcStart | .outWrite _ | .tickFall | .reset => false

/-- The closed form of the filter: the sum of the last d samples, those before the first counting as 0, divided by d
(R182). -/
def closedForm (d : Nat) (samples : List Word) : Nat := ((samples.reverse.take d).map BitVec.toNat).sum / d

/-- Update on one sample after another: the state at the end and the returns in order (R182). -/
def updateAll (s : State) : List Word → State × List Nat
  | [] => (s, [])
  | x :: xs =>
    let r := update s x
    let rest := updateAll r.1 xs
    (rest.1, r.2 :: rest.2)

/-- The source's history: prepend the new sample and keep the most recent (R175). -/
def shiftIn (d : Nat) (history : List Word) (x : Word) : List Word := (x :: history).take d

/-- The source's filter on one sample after another, from a history of zeros (R175, R181). -/
def shiftAll (d : Nat) (history : List Word) : List Word → List Nat
  | [] => []
  | x :: xs =>
    let h := shiftIn d history x
    (h.map BitVec.toNat).sum / d :: shiftAll d h xs

/-- The steps of one whole period: the countdown to the expiry, then the tick (R201, R213). -/
def periodSteps (period : Nat) (v : Word) : List Instr :=
  List.replicate period .tce ++ [.seqT1, .seqT2, .adcDone v, .seqT4]

/-- The events of one tick that latches y (R212). -/
def tickEvents (y : Word) : List TraceEvent := [.tickRise, .adcStart, .outWrite y, .tickFall]

/-- A run under a stream of turns: each state is the step from the one before it, with that turn offered (R12). -/
def RunsUnder (turns : Nat → Turn) (run : Nat → State) : Prop :=
  ∀ n, step { run n with sched := [turns n] } = .next (run (n + 1))

/-- SEQ's own steps and where they are enabled (R202, R203, R206). -/
def seqEnabled (s : State) : Event → Bool
  | .seqT1 => s.tickDue
  | .seqT2 => s.seq == .sampling
  | .seqT4 => s.seq == .done
  | _ => false

/-- A fair run (R295): an enabled step of SEQ is taken or stops being enabled, a conversion in progress is
reported or ends otherwise, a byte in flight is reported or its frame ends, and TCE pulses come again and again. -/
structure FairRun (turns : Nat → Turn) (run : Nat → State) : Prop where
  runs : RunsUnder turns run
  seqSteps : ∀ e n, seqEnabled (run n) e = true → ∃ m, n ≤ m ∧ (turns m = .event e ∨ seqEnabled (run m) e = false)
  conversions : ∀ n, (run n).seq = .converting →
    ∃ m, n ≤ m ∧ ((∃ v, turns m = .event (.adcDone v)) ∨ (run m).seq ≠ .converting)
  bytes : ∀ n, (run n).exp.busy = true → ∃ m, n ≤ m ∧ (turns m = .event .spiDone ∨ (run m).exp.busy = false)
  pulses : ∀ n, ∃ m, n ≤ m ∧ turns m = .event .tce

end Sys2Proof.Machine
end

