-- ==== Sys2Proof/Certificates/Slice0/Obligations.lean ====
section
/-! DEFINITION. The statements for the provers. Each docstring names the rules of spec/ that it formalises. -/

open Sys2Proof Sys2Proof.Machine

/-! ## Encoding -/

/-- Every host transaction decodes from its own word with every operand, and every word is, up to the ignored field D
of a read, the word of what it decodes to (R80, R81, R82, R92). -/
def Obligations.DecodeInvertsEncode : Prop :=
  (∀ i w, encode i = some w → decode w = i) ∧
  (∀ w, encode (decode w) = some (canonicalWord w)) ∧
  (∀ i, encode i = none ↔ ∃ e : Event, e.instr = i)

/-- The 16 rows of the opcode map partition the words, and a word decodes to the step of its one row (R92). -/
def Obligations.EveryWordMatchesOneRow : Prop :=
  ∀ w : HtWord, (rows.filter fun r => r.matchesWord w).map Row.mnemonic = [(decode w).mnemonic]

/-- Field D of a read is ignored, and the assembler writes it as 0 (R82). -/
def Obligations.ReadsIgnoreFieldD : Prop :=
  (∀ w v : HtWord, wField w = false → wField v = false → aField w = aField v → decode w = decode v) ∧
  (∀ r : HostReg, wField (HostStmt.rd r).word = false ∧ aField (HostStmt.rd r).word = r.addr ∧
    dField (HostStmt.rd r).word = 0)

/-- Words written out from the table of R92 decode to their transactions. -/
def Obligations.WrittenOutWordsDecode : Prop :=
  decode 0b00000000000000000000#20 = .rdCtrl ∧ decode 0b10000000000000000011#20 = .wrCtrl 0x0003#16 ∧
  decode 0b00011010101111001101#20 = .rdStatus ∧ decode 0b10100000000001100100#20 = .wrReload 0x0064#16 ∧
  decode 0b11010001001001010101#20 = .wrExpcmd 0x1255#16 ∧ decode 0b01110000000000000000#20 = .rdRsv7 ∧
  decode 0b11111111111111111111#20 = .wrRsv7 0xFFFF#16

/-! ## The step -/

/-- A host word that comes next is decoded and executed. Around `exec` the step uses the turn up, ends the pulses and
the answer of the last turn, and sees RST = 0 (R64, R80; the turns are the model's choice, log 1, 7 and 8). -/
def Obligations.StepRunsDecodedWord : Prop :=
  ∀ (s : State) (w : HtWord) (ts : List Turn), s.params.legal = true → s.sched = .host w :: ts →
    step s = exec (decode w)
      { s with sched := ts, rdata := none, adcStart := false, spiTx := none, rstHeld := false }

/-- An agent's event that comes next is executed; a RESET where RST was 0 before (R94, R12; log 1, 7 and 8). -/
def Obligations.StepRunsAgentEvent : Prop :=
  ∀ (s : State) (e : Event) (ts : List Turn), s.params.legal = true → s.sched = .event e :: ts →
    (e ≠ .reset → step s = exec e.instr
      { s with sched := ts, rdata := none, adcStart := false, spiTx := none, rstHeld := false }) ∧
    (e = .reset → s.rstHeld = false → step s = exec .reset
      { s with sched := ts, rdata := none, adcStart := false, spiTx := none, rstHeld := true })

/-- RST held at 1 for a further cycle repeats the reset and emits no event, and the outside takes no other event of such a
cycle (R280; log 8). That offered events stand before what is already listed is the model's choice (log 25). -/
def Obligations.HeldResetEmitsNothing : Prop :=
  (∀ (s : State) (ts : List Turn), s.params.legal = true → s.rstHeld = false →
    s.sched = .event .reset :: .event .reset :: ts →
    ∃ t u, step s = .next t ∧ step t = .next u ∧ u = { t with sched := ts } ∧ u.rstHeld = true ∧
      u.trace = s.trace ++ (if s.csN then [.reset] else [.csDeassert, .reset])) ∧
  (∀ (s : State) (events : List Turn), s.rstHeld = true → .event .reset ∈ events →
    s.offerCycle events = { s with sched := .event .reset :: s.sched }) ∧
  (∀ (s : State) (events : List Turn), s.rstHeld = false ∨ .event .reset ∉ events →
    s.offerCycle events = { s with sched := resolveCycle events ++ s.sched })

/-- A CLK edge with RST = 0 is no step of an agent. It counts each bounded wait in progress and, where the count reaches
the bound, lists the timeout as the next step, ADC_TIMEOUT first (R37, R147, R207; log 9). The pulses and the answer of
the last turn end (log 7), RST is 0 (log 8), and nothing else changes. -/
def Obligations.ClockTurnCountsWaits : Prop :=
  ∀ (s : State) (ts : List Turn), s.params.legal = true → s.sched = .clk :: ts →
    ∃ (t : State) (a b : List Turn), step s = .next t ∧
      t = { s with
        sched := a ++ b ++ ts, adcWait := t.adcWait, spiWait := t.spiWait
        rdata := none, adcStart := false, spiTx := none, rstHeld := false } ∧
      (∀ n, s.params.adcTimeout = .bounded n → s.seq = .converting →
        t.adcWait = s.adcWait + 1 ∧ a = if n ≤ s.adcWait + 1 then [.event .adcTimeout] else []) ∧
      (s.params.adcTimeout = .unbounded ∨ s.seq ≠ .converting → t.adcWait = s.adcWait ∧ a = []) ∧
      (∀ n, s.params.spiTimeout = .bounded n → s.exp.busy = true →
        t.spiWait = s.spiWait + 1 ∧ b = if n ≤ s.spiWait + 1 then [.event .spiTimeout] else []) ∧
      (s.params.spiTimeout = .unbounded ∨ s.exp.busy = false → t.spiWait = s.spiWait ∧ b = [])

/-- A step is refused exactly where the parameter set breaks a constraint of R7; the recommendation W_OUT >= W_S is no
constraint. That it is `step` that refuses the set is the model's choice (log 5). -/
def Obligations.IllegalParametersAreRefused : Prop :=
  ∀ s : State, step s = .refused .illegalParameters ↔
    ¬ (1 ≤ s.params.wS ∧ s.params.wS ≤ 16 ∧ 1 ≤ s.params.wOut ∧ s.params.wOut ≤ 16 ∧
      1 ≤ s.params.wTmr ∧ s.params.wTmr ≤ 16 ∧
      (s.params.adcTimeout = .unbounded ∨ ∃ n, s.params.adcTimeout = .bounded n ∧ 0 < n) ∧
      (s.params.spiTimeout = .unbounded ∨ ∃ n, s.params.spiTimeout = .bounded n ∧ 0 < n))

/-- No step stops the block: no word and no transaction traps, and a run has no terminal state (R91, R93, R248, R297).
That a step offered where it is not enabled answers a next state is the model's choice (log 3). -/
def Obligations.NoStepStopsTheBlock : Prop :=
  (∀ (i : Instr) (s : State), ∃ t, exec i s = .next t) ∧
  (∀ s : State, s.params.legal = true → ∃ t, step s = .next t)

/-- A step offered where it is not enabled changes nothing (log 3; the enabling conditions are those of R147, R202,
R203, R206 and R207). -/
def Obligations.StepNotEnabledChangesNothing : Prop :=
  ∀ s : State,
    (¬ (s.seq = .idle ∧ s.arm = true ∧ s.pending = true) → exec .seqT1 s = .next s) ∧
    (s.seq ≠ .sampling → exec .seqT2 s = .next s) ∧
    (s.seq ≠ .done → exec .seqT4 s = .next s) ∧
    (s.params.adcTimeout = .unbounded ∨ s.seq ≠ .converting → exec .adcTimeout s = .next s) ∧
    (s.params.spiTimeout = .unbounded ∨ s.exp = .idle ∨ s.exp = .fault → exec .spiTimeout s = .next s)

/-! ## Invariants -/

/-- Every step keeps the invariants of R40, with the widths of R23, R27, R28, the unreachability of R178 and the reset
values while RST stays 1 (R280, log 8). -/
def Obligations.StepKeepsInvariants : Prop :=
  ∀ s t : State, s.Inv → step s = .next t → t.Inv

/-- The state after reset meets the invariants under every legal parameter set (R39, R40). -/
def Obligations.ResetStateMeetsInvariants : Prop :=
  (∀ p : Params, p.legal = true → (State.resetWith p).Inv) ∧ State.reset.Inv

/-- Reset sets every element to the value of R39's table: a state that RESET leaves has these values, and so has the
state that a run starts from, whatever the parameters. -/
def Obligations.ResetStateHasTheTablesValues : Prop :=
  ∀ t : State, (∃ s, exec .reset s = .next t) ∨ (∃ p, t = State.resetWith p) →
    (∀ k, (h : k < 5) → t.hist[k] = 0) ∧ t.wp = 0 ∧ t.fmode = .uncfg ∧ t.depth = 0 ∧ t.cfgNib = 0 ∧
    t.arm = false ∧ t.reload = 0 ∧ t.count = 0 ∧ t.pending = false ∧ t.seq = .idle ∧ t.tick = false ∧ t.outLatch = 0 ∧
    t.exp = .idle ∧ t.expAddr = 0 ∧ t.expData = 0 ∧ t.csN = true ∧
    t.errOvr = false ∧ t.errAdcTo = false ∧ t.errSpiTo = false ∧ t.errProto = false ∧ t.adcWait = 0 ∧ t.spiWait = 0

/-- The trace shows SAMP's events in the order of a tick, and SEQ stands where the trace ends: so it is after reset, and
every step keeps it so (R71, R212, R215). -/
def Obligations.StepKeepsTickOrder : Prop :=
  (∀ p : Params, tickPhase (State.resetWith p).trace = some (State.resetWith p).seq.phase) ∧
  (∀ s t : State, s.Inv → tickPhase s.trace = some s.seq.phase → step s = .next t →
    tickPhase t.trace = some t.seq.phase)

/-- The trace shows SPIX's events as whole frames of the write opcode and two bytes, or frames cut by a timeout or a
reset, and EXP with the frame latch stands where the trace ends: so it is after reset, and every step keeps it so (R71,
R145, R147, R282). -/
def Obligations.StepKeepsFrameOrder : Prop :=
  (∀ p : Params, framePhase p.writeOpcode (State.resetWith p).trace = some .closed ∧
    frameAgrees (State.resetWith p) .closed = true) ∧
  (∀ (s t : State) (p : FramePhase), s.Inv → framePhase s.params.writeOpcode s.trace = some p →
    frameAgrees s p = true → step s = .next t →
    ∃ q, framePhase t.params.writeOpcode t.trace = some q ∧ frameAgrees t q = true)

/-- No step changes a parameter (R6, R38). -/
def Obligations.ParametersNeverChange : Prop :=
  (∀ (i : Instr) (s t : State), exec i s = .next t → t.params = s.params) ∧
  (∀ s t : State, step s = .next t → t.params = s.params)

/-- Outside FAULT and outside the time between an expiry and T1, PENDING = 1 exactly when TICK = 1 (R41). -/
def Obligations.PendingFollowsTick : Prop :=
  ∀ s : State, s.Inv → s.seq ≠ .fault → ¬ (s.seq = .idle ∧ s.pending = true) →
    (statusWord s).getLsbD 8 = (statusWord s).getLsbD 9

/-! ## Host reads -/

/-- RD.CTRL answers ARM in bit 0 and 0 in every other bit (R83, R100). -/
def Obligations.RdCtrlAnswersArm : Prop :=
  DecodesAs 0x00000#20 (fun _ => .rdCtrl) ∧
  (∀ s : State, exec .rdCtrl s = .next { s with rdata := some (if s.arm then 0x0001#16 else 0x0000#16) }) ∧
  (∀ s : State, s.fmode = .uncfg → s.arm = false →
    ∃ t, execAll [.wrCtrl 0x0003#16, .rdCtrl] s = .next t ∧ t.rdata = some 0x0001#16)

/-- RD.STATUS answers the fields of the status word, SEQ by its code of R30 (R30, R84, R102). -/
def Obligations.RdStatusAnswersFields : Prop :=
  DecodesAs 0x10000#20 (fun _ => .rdStatus) ∧
  ∀ s : State, ∃ v : Word, exec .rdStatus s = .next { s with rdata := some v } ∧
    (v.getLsbD 0 = true ↔ s.fmode ≠ .uncfg) ∧ (v.getLsbD 1 = true ↔ s.fmode = .active) ∧
    v.extractLsb' 2 3 = s.depth ∧
    (v.extractLsb' 5 3 = 0#3 ↔ s.seq = .idle) ∧ (v.extractLsb' 5 3 = 1#3 ↔ s.seq = .sampling) ∧
    (v.extractLsb' 5 3 = 2#3 ↔ s.seq = .converting) ∧ (v.extractLsb' 5 3 = 3#3 ↔ s.seq = .done) ∧
    (v.extractLsb' 5 3 = 4#3 ↔ s.seq = .fault) ∧
    v.getLsbD 8 = s.pending ∧ v.getLsbD 9 = s.tick ∧
    (v.getLsbD 10 = true ↔ s.exp = .b0 ∨ s.exp = .b1 ∨ s.exp = .b2) ∧
    v.getLsbD 11 = s.errOvr ∧ v.getLsbD 12 = s.errAdcTo ∧ v.getLsbD 13 = s.errSpiTo ∧ v.getLsbD 14 = s.errProto ∧
    v.getLsbD 15 = false

/-- RD.RELOAD and RD.COUNT answer the timer's registers, with the bits from W_TMR up 0 (R85, R86, R104, R106). -/
def Obligations.RdReloadAndRdCountAnswerTimer : Prop :=
  DecodesAs 0x20000#20 (fun _ => .rdReload) ∧ DecodesAs 0x30000#20 (fun _ => .rdCount) ∧
  ∀ s : State, exec .rdReload s = .next { s with rdata := some s.reload } ∧
    exec .rdCount s = .next { s with rdata := some s.count } ∧
    (s.Inv → ∀ k, s.params.wTmr ≤ k → s.reload.getLsbD k = false ∧ s.count.getLsbD k = false)

/-- RD.OUT answers the output latch, with the bits from W_OUT up 0 (R87, R108). -/
def Obligations.RdOutAnswersLatch : Prop :=
  DecodesAs 0x40000#20 (fun _ => .rdOut) ∧
  ∀ s : State, exec .rdOut s = .next { s with rdata := some s.outLatch } ∧
    (s.Inv → ∀ k, s.params.wOut ≤ k → s.outLatch.getLsbD k = false)

/-- RD.EXPCMD answers the frame latch, RD.CFG the latched nibble, RD.RSV7 zero (R88, R89, R90, R110, R112, R114). -/
def Obligations.RdExpcmdRdCfgRdRsv7Answer : Prop :=
  DecodesAs 0x50000#20 (fun _ => .rdExpcmd) ∧ DecodesAs 0x60000#20 (fun _ => .rdCfg) ∧
  DecodesAs 0x70000#20 (fun _ => .rdRsv7) ∧
  ∀ s : State,
    (∃ v : Word, exec .rdExpcmd s = .next { s with rdata := some v } ∧
      v.extractLsb' 8 8 = s.expAddr ∧ v.extractLsb' 0 8 = s.expData) ∧
    (∃ v : Word, exec .rdCfg s = .next { s with rdata := some v } ∧ v.toNat = s.cfgNib.toNat) ∧
    exec .rdRsv7 s = .next { s with rdata := some 0x0000#16 }

/-- A read has no side effect on any element of the state or on the trace, and a second read with no other step between
them answers the same (R62). -/
def Obligations.ReadsHaveNoSideEffect : Prop :=
  ∀ (s : State) (w : HtWord), wField w = false →
    exec (decode w) s = .next { s with rdata := some (regRead s (aField w)) } ∧
    ∀ t u : State, exec (decode w) s = .next t → exec (decode w) t = .next u → u = t

/-! ## Host writes -/

/-- Writes to STATUS, CFG and the reserved address are ignored (R103, R113, R115). -/
def Obligations.IgnoredWritesChangeNothing : Prop :=
  DecodesAs 0x90000#20 (fun d => .wrStatus d) ∧ DecodesAs 0xE0000#20 (fun d => .wrCfg d) ∧
  DecodesAs 0xF0000#20 (fun d => .wrRsv7 d) ∧
  ∀ (s : State) (d : Word), exec (.wrStatus d) s = .next s ∧ exec (.wrCfg d) s = .next s ∧ exec (.wrRsv7 d) s = .next s

/-- Writes to COUNT and OUT are ignored. COUNT changes only by a count-enable pulse, by the load of RELOAD in T1 or in an
arm, and by reset, so of the host's transactions only an arm changes it. The latch changes only by T3 and reset (R28,
R32, R107, R109). -/
def Obligations.WrCountAndWrOutChangeNothing : Prop :=
  DecodesAs 0xB0000#20 (fun d => .wrCount d) ∧ DecodesAs 0xC0000#20 (fun d => .wrOut d) ∧
  (∀ (s : State) (d : Word), exec (.wrCount d) s = .next s ∧ exec (.wrOut d) s = .next s) ∧
  (∀ (w : HtWord) (s t : State), exec (decode w) s = .next t → t.count ≠ s.count →
    ∃ d, decode w = .wrCtrl d ∧ d.getLsbD 0 = true ∧ s.arm = false ∧ t.count = s.reload) ∧
  (∀ (i : Instr) (s t : State), exec i s = .next t → t.count ≠ s.count →
    i = .tce ∧ s.arm = true ∧ t.count.toNat + 1 = s.count.toNat ∨
    i = .seqT1 ∧ t.count = s.reload ∨
    (∃ d, i = .wrCtrl d ∧ d.getLsbD 0 = true ∧ s.arm = false ∧ t.count = s.reload) ∨
    i = .reset ∧ t.count = 0) ∧
  (∀ (i : Instr) (s t : State), exec i s = .next t → t.outLatch ≠ s.outLatch →
    (∃ v, i = .adcDone v) ∧ s.seq = .converting ∨ i = .reset)

/-- WR.CTRL with CONFIGURE on an unconfigured block: it latches a draw of CFG_IN, sets mode and depth by the fixed mapping
and clears the history, and then arms or disarms (R38, R101, R171, R172, R209, R210). The draw is the next listed value,
or a free one where none is listed (log 6). -/
def Obligations.WrCtrlConfiguresThenArms : Prop :=
  DecodesAs 0x80000#20 (fun d => .wrCtrl d) ∧
  ∀ (s : State) (d : Word) (n : Nibble), s.fmode = .uncfg → d.getLsbD 1 = true →
    (∀ ns, s.cfgDraws = n :: ns → exec (.wrCtrl d) s = .next { s with
      cfgDraws := ns
      cfgNib := n
      fmode := if n.toNat < 4 then .active else .inactive
      depth := if n.toNat < 4 then BitVec.ofNat 3 (n.toNat + 2) else 0
      hist := Vector.replicate 5 0
      wp := 0
      arm := d.getLsbD 0
      count := if d.getLsbD 0 && !s.arm then s.reload else s.count }) ∧
    (s.cfgDraws = [] → n = Config.freeCfgIn s.cfgDrawn → exec (.wrCtrl d) s = .next { s with
      cfgDrawn := s.cfgDrawn + 1
      cfgNib := n
      fmode := if n.toNat < 4 then .active else .inactive
      depth := if n.toNat < 4 then BitVec.ofNat 3 (n.toNat + 2) else 0
      hist := Vector.replicate 5 0
      wp := 0
      arm := d.getLsbD 0
      count := if d.getLsbD 0 && !s.arm then s.reload else s.count })

/-- WR.CTRL on a configured block: CONFIGURE raises ERR_PROTO, and the write arms, leaves armed or disarms (R101, R173,
R209, R210). -/
def Obligations.WrCtrlOnConfiguredBlock : Prop :=
  ∀ (s : State) (d : Word), s.fmode ≠ .uncfg →
    exec (.wrCtrl d) s = .next { s with
      errProto := s.errProto || d.getLsbD 1
      arm := d.getLsbD 0
      count := if d.getLsbD 0 && !s.arm then s.reload else s.count }

/-- WR.CTRL without CONFIGURE on an unconfigured block: an arm is refused with ERR_PROTO, else it disarms (R101, R209,
R210). -/
def Obligations.WrCtrlOnUnconfiguredBlock : Prop :=
  ∀ (s : State) (d : Word), s.fmode = .uncfg → d.getLsbD 1 = false →
    exec (.wrCtrl d) s = .next { s with errProto := s.errProto || d.getLsbD 0, arm := s.arm && d.getLsbD 0 }

/-- Configure takes effect once: until reset the mode, the depth and the nibble stay, a later configure raises
ERR_PROTO, and CFG_IN has no effect: whatever draws are listed, the step is the same and uses none (R173; log 6). -/
def Obligations.ConfigurationIsTakenOnce : Prop :=
  ∀ (i : Instr) (s t : State), s.fmode ≠ .uncfg → i ≠ .reset → exec i s = .next t →
    (t.fmode = s.fmode ∧ t.depth = s.depth ∧ t.cfgNib = s.cfgNib) ∧
    (∀ d, i = .wrCtrl d → d.getLsbD 1 = true → t.errProto = true ∧ t.hist = s.hist ∧ t.wp = s.wp) ∧
    (∀ (l : List Nibble) (k : Nat),
      exec i { s with cfgDraws := l, cfgDrawn := k } = .next { t with cfgDraws := l, cfgDrawn := k })

/-- WR.RELOAD stores D[W_TMR-1:0] and changes nothing else (R85, R105). -/
def Obligations.WrReloadStoresPeriod : Prop :=
  DecodesAs 0xA0000#20 (fun d => .wrReload d) ∧
  ∀ (s : State) (d : Word),
    exec (.wrReload d) s = .next { s with reload := BitVec.ofNat 16 (d.toNat % 2 ^ s.params.wTmr) }

/-- The latest reload wins: a write of RELOAD leaves COUNT, the value written stays in RELOAD whatever else happens
until the next write or a reset, and T1 and an arm load the value of RELOAD at that moment (R211). -/
def Obligations.LatestReloadWins : Prop :=
  ∀ s : State,
    (∀ (a : Word) (is : List Instr) (t : State), (∀ i ∈ is, i ≠ .reset ∧ ∀ d, i ≠ .wrReload d) →
      execAll (.wrReload a :: is) s = .next t → t.reload = BitVec.ofNat 16 (a.toNat % 2 ^ s.params.wTmr)) ∧
    (∀ (a : Word) (t : State), exec (.wrReload a) s = .next t → t.count = s.count) ∧
    (∀ t, s.seq = .idle → s.arm = true → s.pending = true → exec .seqT1 s = .next t → t.count = s.reload) ∧
    (∀ d t, s.fmode ≠ .uncfg → s.arm = false → d.getLsbD 0 = true → exec (.wrCtrl d) s = .next t → t.count = s.reload)

/-- WR.EXPCMD starts a frame when idle, raises ERR_PROTO and leaves the frame alone when busy, does nothing in FAULT
(R68, R111, R141, R142). -/
def Obligations.WrExpcmdStartsFrame : Prop :=
  DecodesAs 0xD0000#20 (fun d => .wrExpcmd d) ∧
  ∀ (s : State) (d : Word),
    (s.exp = .idle → exec (.wrExpcmd d) s = .next { s with
      expAddr := d.extractLsb' 8 8
      expData := d.extractLsb' 0 8
      csN := false
      exp := .b0
      spiTx := some s.params.writeOpcode
      trace := s.trace ++ [.csAssert, .tx s.params.writeOpcode]
      spiWait := if s.params.spiTimeout = .unbounded then s.spiWait else 0 }) ∧
    (s.exp = .b0 ∨ s.exp = .b1 ∨ s.exp = .b2 → exec (.wrExpcmd d) s = .next { s with errProto := true }) ∧
    (s.exp = .fault → exec (.wrExpcmd d) s = .next s)

/-! ## The frame engine -/

/-- SPI_DONE sends the address, sends the data, ends the frame, and is ignored in IDLE and FAULT (R142, R143, R144). -/
def Obligations.SpiDoneAdvancesFrame : Prop :=
  ∀ s : State,
    (s.exp = .b0 → exec .spiDone s = .next { s with
      exp := .b1, spiTx := some s.expAddr, trace := s.trace ++ [.tx s.expAddr]
      spiWait := if s.params.spiTimeout = .unbounded then s.spiWait else 0 }) ∧
    (s.exp = .b1 → exec .spiDone s = .next { s with
      exp := .b2, spiTx := some s.expData, trace := s.trace ++ [.tx s.expData]
      spiWait := if s.params.spiTimeout = .unbounded then s.spiWait else 0 }) ∧
    (s.exp = .b2 → exec .spiDone s = .next { s with
      csN := true, trace := s.trace ++ [.csDeassert], exp := .idle }) ∧
    (s.exp = .idle ∨ s.exp = .fault → exec .spiDone s = .next s)

/-- SPI_TIMEOUT of a bounded wait releases chip select, enters FAULT and sets ERR_SPI_TO (R147). -/
def Obligations.SpiTimeoutAbandonsFrame : Prop :=
  ∀ (s : State) (n : Nat), s.params.spiTimeout = .bounded n → s.exp = .b0 ∨ s.exp = .b1 ∨ s.exp = .b2 →
    exec .spiTimeout s = .next { s with
      csN := true, trace := s.trace ++ [.csDeassert], exp := .fault, errSpiTo := true }

/-- An accepted WR.EXPCMD gives its five events and nothing else of SPIX, whatever steps come between, provided no reset
and no SPI timeout comes before the third completion (R145, R71, R73). -/
def Obligations.AcceptedWriteGivesWholeFrame : Prop :=
  ∀ (s t : State) (v : Word) (is : List Instr), s.exp = .idle →
    (∀ i ∈ is, i ≠ .reset ∧ i ≠ .spiTimeout) → is.count .spiDone = 2 →
    execAll (.wrExpcmd v :: (is ++ [.spiDone])) s = .next t →
    t.trace.filter TraceEvent.ofSpix = s.trace.filter TraceEvent.ofSpix ++
      [.csAssert, .tx s.params.writeOpcode, .tx (v.extractLsb' 8 8), .tx (v.extractLsb' 0 8), .csDeassert] ∧
    t.exp = .idle ∧ t.csN = true ∧ t.expAddr ++ t.expData = v

/-! ## The sampler -/

/-- TCE counts down while armed and COUNT > 0; from 1 to 0 it expires, and an expiry while PENDING = 1 raises ERR_OVR;
else it changes nothing (R200, R201). -/
def Obligations.TceCountsDownAndExpires : Prop :=
  ∀ s : State,
    (s.arm = true → 1 < s.count.toNat →
      exec .tce s = .next { s with count := BitVec.ofNat 16 (s.count.toNat - 1) }) ∧
    (s.arm = true → s.count.toNat = 1 →
      exec .tce s = .next { s with count := 0, pending := true, errOvr := s.errOvr || s.pending }) ∧
    (s.arm = false ∨ s.count.toNat = 0 → exec .tce s = .next s)

/-- SEQ.T1 reloads COUNT, raises TICK and enters SAMPLING; PENDING stays (R202, R244). -/
def Obligations.SeqT1BeginsTick : Prop :=
  ∀ s : State, s.seq = .idle → s.arm = true → s.pending = true →
    exec .seqT1 s = .next { s with count := s.reload, tick := true, trace := s.trace ++ [.tickRise], seq := .sampling }

/-- SEQ.T2 pulses ADC_START and enters CONVERTING, armed or not (R203). -/
def Obligations.SeqT2StartsConversion : Prop :=
  ∀ s : State, s.seq = .sampling →
    exec .seqT2 s = .next { s with
      adcStart := true, trace := s.trace ++ [.adcStart], seq := .converting
      adcWait := if s.params.adcTimeout = .unbounded then s.adcWait else 0 }

/-- ADC_DONE(v) filters the low W_S bits of v and latches the low W_OUT bits of the result: in ACTIVE(d) the sum of the
d slots with the new sample, divided by d; else 0 with the history unchanged. In any other state of SEQ it changes
nothing (R176, R177, R205, R208; the update in UNCFG is log 10). -/
def Obligations.AdcDoneFiltersAndLatches : Prop :=
  ∀ (s : State) (v : Word),
    (s.seq = .converting → s.fmode = .active → s.wp.toNat < s.depth.toNat → s.depth.toNat ≤ 5 →
      ∃ (h : Vector Word 5) (y : Word), exec (.adcDone v) s = .next { s with
          hist := h
          wp := BitVec.ofNat 3 ((s.wp.toNat + 1) % s.depth.toNat)
          outLatch := y
          trace := s.trace ++ [.outWrite y]
          seq := .done } ∧
        (∀ k, (hk : k < 5) → h[k].toNat = if k = s.wp.toNat then v.toNat % 2 ^ min s.params.wS 16 else s.hist[k].toNat) ∧
        y.toNat = ((∑ k : Fin 5, if k.val < s.depth.toNat then h[k.val].toNat else 0) / s.depth.toNat)
          % 2 ^ min s.params.wOut 16) ∧
    (s.seq = .converting → s.fmode ≠ .active →
      exec (.adcDone v) s = .next { s with outLatch := 0, trace := s.trace ++ [.outWrite 0], seq := .done }) ∧
    (s.seq ≠ .converting → exec (.adcDone v) s = .next s)

/-- SEQ.T4 lowers TICK, clears PENDING and returns SEQ to IDLE (R206, R245). -/
def Obligations.SeqT4EndsTick : Prop :=
  ∀ s : State, s.seq = .done →
    exec .seqT4 s = .next { s with tick := false, trace := s.trace ++ [.tickFall], pending := false, seq := .idle }

/-- ADC_TIMEOUT of a bounded wait enters FAULT and sets ERR_ADC_TO; TICK, PENDING and the latch stay (R207). -/
def Obligations.AdcTimeoutEntersFault : Prop :=
  ∀ (s : State) (n : Nat), s.params.adcTimeout = .bounded n → s.seq = .converting →
    exec .adcTimeout s = .next { s with seq := .fault, errAdcTo := true }

/-- T1 is taken only in IDLE, armed and pending, so a tick never starts while another is in progress, and only T4 and a
reset return to IDLE (R202, R206, R215, R245). -/
def Obligations.TicksDoNotNest : Prop :=
  ∀ (i : Instr) (s t : State), exec i s = .next t →
    (s.seq ≠ .sampling → t.seq = .sampling → i = .seqT1 ∧ s.seq = .idle ∧ s.arm = true ∧ s.pending = true) ∧
    (s.seq ≠ .idle → t.seq = .idle → i = .seqT4 ∧ s.seq = .done ∨ i = .reset)

/-- With RELOAD = 0 and nothing pending, whatever the host and the agents do short of writing RELOAD: COUNT stays 0
once it is 0, no expiry comes and no tick begins; with RELOAD = 1 the first pulse after the load expires (R214). -/
def Obligations.ReloadZeroNeverTicks : Prop :=
  (∀ (is : List Instr) (s t : State), s.reload = 0 → s.count = 0 → s.pending = false → s.seq = .idle →
    (∀ i ∈ is, ∀ d, i ≠ .wrReload d) → execAll is s = .next t →
    t.count = 0 ∧ t.pending = false ∧ t.seq = .idle ∧ (t.errOvr = true → s.errOvr = true)) ∧
  (∀ s : State, s.fmode ≠ .uncfg → s.arm = false → s.reload = 1 →
    ∃ t, execAll [.wrCtrl 0x0001#16, .tce] s = .next t ∧ t.pending = true ∧ t.count = 0)

/-- A whole run of the sampler: armed with a period of at least 1 and an ACTIVE(d) filter just configured, every period
of as many pulses as COUNT holds gives one tick with its four events in order, and the k-th latches the closed form
over the samples so far (R182, R212, R213, R216). -/
def Obligations.EveryPeriodLatchesTheAverage : Prop :=
  ∀ (s : State) (samples : List Word), s.Inv → s.fmode = .active → s.hist = Vector.replicate 5 0 → s.seq = .idle →
    s.arm = true → s.pending = false → s.reload ≠ 0 → s.count = s.reload →
    (∀ x ∈ samples, x.toNat < 2 ^ s.params.wS) →
    ∃ t, execAll (samples.flatMap (periodSteps s.reload.toNat)) s = .next t ∧
      t.trace = s.trace ++ (List.range samples.length).flatMap (fun k =>
        tickEvents (BitVec.ofNat 16 (closedForm s.depth.toNat (samples.take (k + 1)) % 2 ^ s.params.wOut))) ∧
      t.seq = .idle ∧ t.pending = false ∧ t.count = s.reload ∧ t.errOvr = s.errOvr

/-! ## The filter -/

/-- The returns of the filter have the closed form of R182, zero-padded at the start (R181, R182). -/
def Obligations.FilterReturnsClosedForm : Prop :=
  ∀ (s : State) (samples : List Word), s.fmode = .uncfg → s.cfgIn.toNat < 4 →
    (updateAll (configure s) samples).2 =
      (List.range samples.length).map fun k => closedForm (s.cfgIn.toNat + 2) (samples.take (k + 1))

/-- The circular buffer gives the same outputs as the source's shift register, from any state of an ACTIVE(d) filter
whose slots, oldest overwritten next, are that history (R174, R175). -/
def Obligations.CircularBufferRefinesShiftRegister : Prop :=
  ∀ (s : State) (history samples : List Word), s.fmode = .active → 2 ≤ s.depth.toNat → s.depth.toNat ≤ 5 →
    s.wp.toNat < s.depth.toNat → history.length = s.depth.toNat →
    (∀ k, (h : k < 5) → k < s.depth.toNat →
      history[(s.wp.toNat + s.depth.toNat - 1 - k) % s.depth.toNat]? = some s.hist[k]) →
    (updateAll s samples).2 = shiftAll s.depth.toNat history samples

/-- The sum needs W_S + 3 bits and the value returned fits W_S bits, so a latch of W_OUT >= W_S bits holds it unchanged
(R179, R180, R208). -/
def Obligations.FilterValueFitsLatch : Prop :=
  ∀ (s : State) (raw : Word), s.Inv → raw.toNat ≤ 2 ^ s.params.wS - 1 →
    (update s raw).2 ≤ 2 ^ s.params.wS - 1 ∧
    histSum (update s raw).1.hist s.depth.toNat ≤ s.depth.toNat * (2 ^ s.params.wS - 1) ∧
    histSum (update s raw).1.hist s.depth.toNat < 2 ^ (s.params.wS + 3) ∧
    (s.params.wS ≤ s.params.wOut → (latchValue s.params (update s raw).2).toNat = (update s raw).2)

/-- The configuration nibble selects mode and depth by the source's fixed mapping (R172). -/
def Obligations.NibbleSelectsDepth : Prop :=
  nibbleMode 0x0#4 = .active ∧ nibbleDepth 0x0#4 = 2 ∧ nibbleMode 0x1#4 = .active ∧ nibbleDepth 0x1#4 = 3 ∧
  nibbleMode 0x2#4 = .active ∧ nibbleDepth 0x2#4 = 4 ∧ nibbleMode 0x3#4 = .active ∧ nibbleDepth 0x3#4 = 5 ∧
  ∀ n : Nibble, 0x4#4 ≤ n → nibbleMode n = .inactive ∧ nibbleDepth n = 0

/-! ## Errors, faults and reset -/

/-- The error bits are sticky: no read, no write and no other step but a reset clears one (R241). -/
def Obligations.ErrorBitsAreSticky : Prop :=
  ∀ s t : State, (∃ i, i ≠ .reset ∧ exec i s = .next t) ∨ (s.nextTurn ≠ .event .reset ∧ step s = .next t) →
    (s.errOvr = true → t.errOvr = true) ∧ (s.errAdcTo = true → t.errAdcTo = true) ∧
    (s.errSpiTo = true → t.errSpiTo = true) ∧ (s.errProto = true → t.errProto = true)

/-- Each error bit is set by its causes of R240 and by no other condition, and no step sets two. In `step` an error bit is
set by an agent's step alone, never by a CLK edge or a further cycle of RST (log 8 and 9). -/
def Obligations.OnlyTheListedCausesRaise : Prop :=
  (∀ (i : Instr) (s t : State), exec i s = .next t →
    (s.errOvr = false → t.errOvr = true → i = .tce ∧ s.arm = true ∧ s.count = 1 ∧ s.pending = true) ∧
    (s.errAdcTo = false → t.errAdcTo = true →
      i = .adcTimeout ∧ s.seq = .converting ∧ s.params.adcTimeout ≠ .unbounded) ∧
    (s.errSpiTo = false → t.errSpiTo = true →
      i = .spiTimeout ∧ s.exp.busy = true ∧ s.params.spiTimeout ≠ .unbounded) ∧
    (s.errProto = false → t.errProto = true →
      (∃ d, i = .wrExpcmd d) ∧ s.exp.busy = true ∨
      ∃ d, i = .wrCtrl d ∧ (d.getLsbD 1 = true ∧ s.fmode ≠ .uncfg ∨
        d.getLsbD 1 = false ∧ d.getLsbD 0 = true ∧ s.fmode = .uncfg)) ∧
    (newErrors s t).count true ≤ 1) ∧
  (∀ s t : State, step s = .next t →
    (newErrors s t).count true ≤ 1 ∧
    (true ∈ newErrors s t → ∃ i, s.action = .instr i ∧ exec i s.takeTurn = .next t))

/-- A transaction sets ERR_PROTO exactly when it breaks a duty that the block can check: write EXPCMD only when not
busy, configure once, configure before arming (R254, R289, R290). -/
def Obligations.ErrProtoMarksBrokenDuty : Prop :=
  ∀ (w : HtWord) (s t : State), exec (decode w) s = .next t →
    t.errProto = (s.errProto || !keepsDuty s (decode w))

/-- A fault state is left only by reset: in SEQ = FAULT no tick step has an effect, TICK, PENDING and OUT stay; in
EXP = FAULT no frame starts and chip select stays (R207, R247). -/
def Obligations.FaultStatesAreTerminal : Prop :=
  ∀ (i : Instr) (s t : State), i ≠ .reset → exec i s = .next t →
    (s.seq = .fault → t.seq = .fault ∧ t.tick = s.tick ∧ (s.pending = true → t.pending = true) ∧
      t.outLatch = s.outLatch) ∧
    (s.exp = .fault → t.exp = .fault ∧ t.csN = s.csN ∧
      t.trace.filter TraceEvent.ofSpix = s.trace.filter TraceEvent.ofSpix)

/-- A step of SAMP leaves SPIX alone, a step of SPIX leaves SAMP and FIR alone, and the two may be taken in either
order: only the trace tells which came first (R71, R73, R247). -/
def Obligations.SampAndSpixAreIndependent : Prop :=
  ∀ (a b : Instr) (s t u : State),
    a = .tce ∨ a = .seqT1 ∨ a = .seqT2 ∨ (∃ v, a = .adcDone v) ∨ a = .seqT4 ∨ a = .adcTimeout →
    (∃ d, b = .wrExpcmd d) ∨ b = .spiDone ∨ b = .spiTimeout →
    execAll [a, b] s = .next t → execAll [b, a] s = .next u →
    { t with trace := [] } = { u with trace := [] } ∧
    t.trace.filter TraceEvent.ofSpix = u.trace.filter TraceEvent.ofSpix ∧
    t.trace.filter (fun e => !e.ofSpix) = u.trace.filter (fun e => !e.ofSpix)

/-- Who writes the elements: HIST and WP change only in T3, by configure and by reset; RELOAD only by WR.RELOAD and
reset; PENDING is set by TCE and cleared by T4 and reset; the frame latch only by an accepted WR.EXPCMD and reset;
ARM only by WR.CTRL and reset (R22, R26, R27, R29, R34). -/
def Obligations.ElementsChangeOnlyByTheirWriters : Prop :=
  ∀ (i : Instr) (s t : State), i ≠ .reset → exec i s = .next t →
    (t.hist ≠ s.hist ∨ t.wp ≠ s.wp →
      (∃ v, i = .adcDone v) ∧ s.seq = .converting ∧ s.fmode = .active ∨
      ∃ d, i = .wrCtrl d ∧ d.getLsbD 1 = true ∧ s.fmode = .uncfg) ∧
    (t.reload ≠ s.reload → ∃ d, i = .wrReload d) ∧
    (s.pending = false → t.pending = true → i = .tce ∧ s.arm = true ∧ s.count = 1) ∧
    (s.pending = true → t.pending = false → i = .seqT4 ∧ s.seq = .done) ∧
    (t.expAddr ≠ s.expAddr ∨ t.expData ≠ s.expData → ∃ d, i = .wrExpcmd d ∧ s.exp = .idle) ∧
    (t.arm ≠ s.arm → ∃ d, i = .wrCtrl d ∧ t.arm = d.getLsbD 0)

/-- The events of one CLK cycle take effect in the orders that R243 lists, in whichever order they are offered, with the
effects it gives. A transfer-complete beats an SPI timeout of its cycle, which is then not taken. The orders are stated for
every field D, and three of them go beyond R243: TCE before a WR.CTRL that does not arm and T1 before a WR.CTRL that does
not disarm are the model's choice of log 13; a WR.CTRL that does not arm before WR.RELOAD is that of log 24. -/
def Obligations.SameCycleOrder : Prop :=
  (∀ a b : Turn,
    (a = .event .seqT4 ∧ b = .event .tce) ∨ (a = .event .tce ∧ b = .event .seqT1) ∨
    (a = .event .tce ∧ ∃ d, b = .host (htWord true 0 d)) ∨
    (a = .event .seqT1 ∧ ∃ d, b = .host (htWord true 2 d)) ∨
    (∃ d e, a = .host (htWord true 0 d) ∧ b = .host (htWord true 2 e)) ∨
    (a = .event .seqT1 ∧ ∃ d, b = .host (htWord true 0 d)) ∨
    ((∃ d, a = .host (htWord true 5 d)) ∧ b = .event .spiDone) ∨
    ((∃ v, a = .event (.adcDone v)) ∧ b = .event .adcTimeout) ∨
    ((∃ r d, a = .host (htWord false r d)) ∧ ∃ e, b = .event e) ∨
    (a ≠ .event .reset ∧ b = .event .reset) →
    resolveCycle [a, b] = [a, b] ∧ resolveCycle [b, a] = [a, b]) ∧
  resolveCycle [.event .spiDone, .event .spiTimeout] = [.event .spiDone] ∧
  resolveCycle [.event .spiTimeout, .event .spiDone] = [.event .spiDone] ∧
  (∀ s t : State,
    (s.seq = .done → s.arm = true → s.count = 1 → s.pending = true → s.errOvr = false →
      execAll [.seqT4, .tce] s = .next t →
      t.pending = true ∧ t.errOvr = false ∧ t.seq = .idle ∧ t.tickDue = true) ∧
    (s.seq = .idle → s.arm = true → s.pending = true → execAll [.tce, .seqT1] s = .next t → t.count = s.reload) ∧
    (∀ d, s.fmode ≠ .uncfg → s.arm = false → d.getLsbD 0 = true →
      execAll [.tce, .wrCtrl d] s = .next t → t.count = s.reload) ∧
    (∀ e, s.seq = .idle → s.arm = true → s.pending = true →
      execAll [.seqT1, .wrReload e] s = .next t → t.count = s.reload) ∧
    (∀ d e, s.fmode ≠ .uncfg → s.arm = false → d.getLsbD 0 = true →
      execAll [.wrCtrl d, .wrReload e] s = .next t → t.count = s.reload) ∧
    (∀ d, s.seq = .idle → s.arm = true → s.pending = true → d.getLsbD 0 = false →
      execAll [.seqT1, .wrCtrl d] s = .next t → t.seq = .sampling ∧ t.tick = true ∧ t.arm = false) ∧
    (∀ d, s.exp = .b2 → execAll [.wrExpcmd d, .spiDone] s = .next t → t.errProto = true ∧ t.exp = .idle) ∧
    (∀ v, s.seq = .converting → execAll [.adcDone v, .adcTimeout] s = .next t →
      t.seq = .done ∧ t.errAdcTo = s.errAdcTo) ∧
    (s.exp.busy = true → exec .spiDone s = .next t → t.exp ≠ .fault ∧ t.errSpiTo = s.errSpiTo))

/-- RESET gives every element its reset value, emits CS_DEASSERT if a frame was in flight and then RESET, and drives the
output ports to their idle levels; the registers read 0 (R280, R281, R282). -/
def Obligations.ResetRestoresEveryElement : Prop :=
  ∀ s : State, ∃ t, exec .reset s = .next t ∧
    t = { State.resetWith s.params with
      rdata := s.rdata, cfgDraws := s.cfgDraws, cfgDrawn := s.cfgDrawn, rstHeld := s.rstHeld
      sched := s.sched, drawn := s.drawn
      trace := s.trace ++ (if s.csN then [.reset] else [.csDeassert, .reset]) } ∧
    t.ports = ⟨false, true, false, none, 0, false⟩ ∧ ∀ a : Three, regRead t a = 0x0000#16

/-- A completion that comes after a reset is ignored: the conversion and the frame were abandoned (R144, R205, R283). -/
def Obligations.CompletionsAfterResetAreIgnored : Prop :=
  ∀ (s : State) (v : Word),
    execAll [.reset, .adcDone v] s = exec .reset s ∧ execAll [.reset, .spiDone] s = exec .reset s

/-- The host's poll of EXP_BUSY ends exactly when no frame is in flight, and EXPW is a write of EXPCMD with that poll
(R74, R96). -/
def Obligations.ExpwPollsUntilFrameEnds : Prop :=
  (∀ (k : LcdConstants) (a d : Byte), (Pseudo.expw a d).expand k =
    [.stmt (.wr .expcmd (a ++ d)), .poll .status 0x0400#16 0x0000#16]) ∧
  ∀ s : State, ∃ t, exec (decode (HostStmt.rd .status).word) s = .next t ∧
    (HostOp.poll .status 0x0400#16 0x0000#16).finished t.rdata = !s.exp.busy

/-- On a fair run every tick ends: SEQ returns to IDLE, or enters FAULT (R295 conditions 1 and 2; fairness errs toward
proving, so it is a hypothesis). -/
def Obligations.FairRunsEndEveryTick : Prop :=
  ∀ (turns : Nat → Turn) (run : Nat → State), FairRun turns run →
    ∀ n, ∃ m, n ≤ m ∧ ((run m).seq = .idle ∨ (run m).seq = .fault)
end

