-- ==== Sys2Proof/Laws/Decode.lean ====
section
/-! SUPPORT. The fields of a transaction word, said once: a word is its three fields, and the mask of the opcode map
keeps W and A (R80, R92). -/

namespace Sys2Proof

@[simp] theorem wField_htWord (b : Bool) (a : Three) (d : Word) : wField (htWord b a d) = b := by
  cases b <;> (simp only [wField, htWord]; rw [BitVec.getLsbD_append]; simp; rw [BitVec.getElem_append]; simp)

@[simp] theorem aField_htWord (b : Bool) (a : Three) (d : Word) : aField (htWord b a d) = a := by
  apply BitVec.eq_of_getLsbD_eq
  intro k hk
  simp only [aField, htWord, BitVec.getLsbD_extractLsb', BitVec.getLsbD_append]
  have h1 : ¬ (16 + k < 16) := by omega
  simp [hk, h1]

@[simp] theorem dField_htWord (b : Bool) (a : Three) (d : Word) : dField (htWord b a d) = d := by
  apply BitVec.eq_of_getLsbD_eq
  intro k hk
  simp only [dField, htWord, BitVec.getLsbD_extractLsb', BitVec.getLsbD_append]
  simp [hk]

/-- A word is made of its fields. -/
theorem htWord_fields (w : HtWord) : htWord (wField w) (aField w) (dField w) = w := by
  apply BitVec.eq_of_getLsbD_eq
  intro k hk
  simp only [dField, aField, wField, htWord, BitVec.getLsbD_extractLsb', BitVec.getLsbD_append, BitVec.getLsbD_ofBool]
  split
  · next h => simp [h]
  · split
    · next h h2 => simp [h2]; congr 1; omega
    · next h h2 =>
      have h3 : k = 19 := by omega
      subst h3; simp

/-- Every word has the three fields; take a word apart with this. -/
theorem exists_fields (w : HtWord) : ∃ b a d, w = htWord b a d := ⟨_, _, _, (htWord_fields w).symm⟩

/-- The mask of the opcode map clears field D and keeps the others. -/
theorem htWord_and_mask (b : Bool) (a : Three) (d : Word) : htWord b a d &&& 0xF0000#20 = htWord b a 0 := by
  apply BitVec.eq_of_getLsbD_eq
  intro k hk
  simp only [htWord, BitVec.getLsbD_append, BitVec.getLsbD_and]
  have h : k < 16 ∨ k = 16 ∨ k = 17 ∨ k = 18 ∨ k = 19 := by omega
  rcases h with h | rfl | rfl | rfl | rfl
  · interval_cases k <;> simp
  all_goals simp

/-- The eight addresses. -/
theorem address_cases (a : Three) : a = 0 ∨ a = 1 ∨ a = 2 ∨ a = 3 ∨ a = 4 ∨ a = 5 ∨ a = 6 ∨ a = 7 := by
  revert a; decide

/-- No word decodes to a step of another agent. -/
theorem decode_ne_reset (w : HtWord) : decode w ≠ .reset := by
  unfold decode; split <;> simp

end Sys2Proof
end

