-- ==== Sys2Proof/Laws/State.lean ====
section
/-! SUPPORT. One lemma per field and named update of the state: a later proof unfolds no record update. -/

namespace Sys2Proof.Machine

/-! `emit` changes the trace alone. -/

@[simp] theorem emit_params (s : State) (e : TraceEvent) : (s.emit e).params = s.params := rfl
@[simp] theorem emit_hist (s : State) (e : TraceEvent) : (s.emit e).hist = s.hist := rfl
@[simp] theorem emit_wp (s : State) (e : TraceEvent) : (s.emit e).wp = s.wp := rfl
@[simp] theorem emit_fmode (s : State) (e : TraceEvent) : (s.emit e).fmode = s.fmode := rfl
@[simp] theorem emit_depth (s : State) (e : TraceEvent) : (s.emit e).depth = s.depth := rfl
@[simp] theorem emit_cfgNib (s : State) (e : TraceEvent) : (s.emit e).cfgNib = s.cfgNib := rfl
@[simp] theorem emit_arm (s : State) (e : TraceEvent) : (s.emit e).arm = s.arm := rfl
@[simp] theorem emit_reload (s : State) (e : TraceEvent) : (s.emit e).reload = s.reload := rfl
@[simp] theorem emit_count (s : State) (e : TraceEvent) : (s.emit e).count = s.count := rfl
@[simp] theorem emit_pending (s : State) (e : TraceEvent) : (s.emit e).pending = s.pending := rfl
@[simp] theorem emit_seq (s : State) (e : TraceEvent) : (s.emit e).seq = s.seq := rfl
@[simp] theorem emit_tick (s : State) (e : TraceEvent) : (s.emit e).tick = s.tick := rfl
@[simp] theorem emit_outLatch (s : State) (e : TraceEvent) : (s.emit e).outLatch = s.outLatch := rfl
@[simp] theorem emit_exp (s : State) (e : TraceEvent) : (s.emit e).exp = s.exp := rfl
@[simp] theorem emit_expAddr (s : State) (e : TraceEvent) : (s.emit e).expAddr = s.expAddr := rfl
@[simp] theorem emit_expData (s : State) (e : TraceEvent) : (s.emit e).expData = s.expData := rfl
@[simp] theorem emit_csN (s : State) (e : TraceEvent) : (s.emit e).csN = s.csN := rfl
@[simp] theorem emit_errOvr (s : State) (e : TraceEvent) : (s.emit e).errOvr = s.errOvr := rfl
@[simp] theorem emit_errAdcTo (s : State) (e : TraceEvent) : (s.emit e).errAdcTo = s.errAdcTo := rfl
@[simp] theorem emit_errSpiTo (s : State) (e : TraceEvent) : (s.emit e).errSpiTo = s.errSpiTo := rfl
@[simp] theorem emit_errProto (s : State) (e : TraceEvent) : (s.emit e).errProto = s.errProto := rfl
@[simp] theorem emit_adcWait (s : State) (e : TraceEvent) : (s.emit e).adcWait = s.adcWait := rfl
@[simp] theorem emit_spiWait (s : State) (e : TraceEvent) : (s.emit e).spiWait = s.spiWait := rfl
@[simp] theorem emit_rdata (s : State) (e : TraceEvent) : (s.emit e).rdata = s.rdata := rfl
@[simp] theorem emit_adcStart (s : State) (e : TraceEvent) : (s.emit e).adcStart = s.adcStart := rfl
@[simp] theorem emit_spiTx (s : State) (e : TraceEvent) : (s.emit e).spiTx = s.spiTx := rfl
@[simp] theorem emit_cfgDraws (s : State) (e : TraceEvent) : (s.emit e).cfgDraws = s.cfgDraws := rfl
@[simp] theorem emit_cfgDrawn (s : State) (e : TraceEvent) : (s.emit e).cfgDrawn = s.cfgDrawn := rfl
@[simp] theorem emit_rstHeld (s : State) (e : TraceEvent) : (s.emit e).rstHeld = s.rstHeld := rfl
@[simp] theorem emit_trace (s : State) (e : TraceEvent) : (s.emit e).trace = s.trace ++ [e] := rfl
@[simp] theorem emit_sched (s : State) (e : TraceEvent) : (s.emit e).sched = s.sched := rfl
@[simp] theorem emit_drawn (s : State) (e : TraceEvent) : (s.emit e).drawn = s.drawn := rfl

/-! `respond` changes RDATA alone. -/

@[simp] theorem respond_params (s : State) (v : Word) : (s.respond v).params = s.params := rfl
@[simp] theorem respond_hist (s : State) (v : Word) : (s.respond v).hist = s.hist := rfl
@[simp] theorem respond_wp (s : State) (v : Word) : (s.respond v).wp = s.wp := rfl
@[simp] theorem respond_fmode (s : State) (v : Word) : (s.respond v).fmode = s.fmode := rfl
@[simp] theorem respond_depth (s : State) (v : Word) : (s.respond v).depth = s.depth := rfl
@[simp] theorem respond_cfgNib (s : State) (v : Word) : (s.respond v).cfgNib = s.cfgNib := rfl
@[simp] theorem respond_arm (s : State) (v : Word) : (s.respond v).arm = s.arm := rfl
@[simp] theorem respond_reload (s : State) (v : Word) : (s.respond v).reload = s.reload := rfl
@[simp] theorem respond_count (s : State) (v : Word) : (s.respond v).count = s.count := rfl
@[simp] theorem respond_pending (s : State) (v : Word) : (s.respond v).pending = s.pending := rfl
@[simp] theorem respond_seq (s : State) (v : Word) : (s.respond v).seq = s.seq := rfl
@[simp] theorem respond_tick (s : State) (v : Word) : (s.respond v).tick = s.tick := rfl
@[simp] theorem respond_outLatch (s : State) (v : Word) : (s.respond v).outLatch = s.outLatch := rfl
@[simp] theorem respond_exp (s : State) (v : Word) : (s.respond v).exp = s.exp := rfl
@[simp] theorem respond_expAddr (s : State) (v : Word) : (s.respond v).expAddr = s.expAddr := rfl
@[simp] theorem respond_expData (s : State) (v : Word) : (s.respond v).expData = s.expData := rfl
@[simp] theorem respond_csN (s : State) (v : Word) : (s.respond v).csN = s.csN := rfl
@[simp] theorem respond_errOvr (s : State) (v : Word) : (s.respond v).errOvr = s.errOvr := rfl
@[simp] theorem respond_errAdcTo (s : State) (v : Word) : (s.respond v).errAdcTo = s.errAdcTo := rfl
@[simp] theorem respond_errSpiTo (s : State) (v : Word) : (s.respond v).errSpiTo = s.errSpiTo := rfl
@[simp] theorem respond_errProto (s : State) (v : Word) : (s.respond v).errProto = s.errProto := rfl
@[simp] theorem respond_adcWait (s : State) (v : Word) : (s.respond v).adcWait = s.adcWait := rfl
@[simp] theorem respond_spiWait (s : State) (v : Word) : (s.respond v).spiWait = s.spiWait := rfl
@[simp] theorem respond_rdata (s : State) (v : Word) : (s.respond v).rdata = some v := rfl
@[simp] theorem respond_adcStart (s : State) (v : Word) : (s.respond v).adcStart = s.adcStart := rfl
@[simp] theorem respond_spiTx (s : State) (v : Word) : (s.respond v).spiTx = s.spiTx := rfl
@[simp] theorem respond_cfgDraws (s : State) (v : Word) : (s.respond v).cfgDraws = s.cfgDraws := rfl
@[simp] theorem respond_cfgDrawn (s : State) (v : Word) : (s.respond v).cfgDrawn = s.cfgDrawn := rfl
@[simp] theorem respond_rstHeld (s : State) (v : Word) : (s.respond v).rstHeld = s.rstHeld := rfl
@[simp] theorem respond_trace (s : State) (v : Word) : (s.respond v).trace = s.trace := rfl
@[simp] theorem respond_sched (s : State) (v : Word) : (s.respond v).sched = s.sched := rfl
@[simp] theorem respond_drawn (s : State) (v : Word) : (s.respond v).drawn = s.drawn := rfl

/-! `raise` sets the bit of its cause alone. -/

@[simp] theorem raise_ovr_errOvr (s : State) : (s.raise .ovr).errOvr = true := rfl
@[simp] theorem raise_ovr_errAdcTo (s : State) : (s.raise .ovr).errAdcTo = s.errAdcTo := rfl
@[simp] theorem raise_ovr_errSpiTo (s : State) : (s.raise .ovr).errSpiTo = s.errSpiTo := rfl
@[simp] theorem raise_ovr_errProto (s : State) : (s.raise .ovr).errProto = s.errProto := rfl
@[simp] theorem raise_adcTo_errAdcTo (s : State) : (s.raise .adcTo).errAdcTo = true := rfl
@[simp] theorem raise_adcTo_errOvr (s : State) : (s.raise .adcTo).errOvr = s.errOvr := rfl
@[simp] theorem raise_adcTo_errSpiTo (s : State) : (s.raise .adcTo).errSpiTo = s.errSpiTo := rfl
@[simp] theorem raise_adcTo_errProto (s : State) : (s.raise .adcTo).errProto = s.errProto := rfl
@[simp] theorem raise_spiTo_errSpiTo (s : State) (k : Nat) : (s.raise (.spiTo k)).errSpiTo = true := rfl
@[simp] theorem raise_spiTo_errOvr (s : State) (k : Nat) : (s.raise (.spiTo k)).errOvr = s.errOvr := rfl
@[simp] theorem raise_spiTo_errAdcTo (s : State) (k : Nat) : (s.raise (.spiTo k)).errAdcTo = s.errAdcTo := rfl
@[simp] theorem raise_spiTo_errProto (s : State) (k : Nat) : (s.raise (.spiTo k)).errProto = s.errProto := rfl
@[simp] theorem raise_proto_errProto (s : State) (r : ProtoReason) : (s.raise (.proto r)).errProto = true := rfl
@[simp] theorem raise_proto_errOvr (s : State) (r : ProtoReason) : (s.raise (.proto r)).errOvr = s.errOvr := rfl
@[simp] theorem raise_proto_errAdcTo (s : State) (r : ProtoReason) : (s.raise (.proto r)).errAdcTo = s.errAdcTo := rfl
@[simp] theorem raise_proto_errSpiTo (s : State) (r : ProtoReason) : (s.raise (.proto r)).errSpiTo = s.errSpiTo := rfl
@[simp] theorem raise_params (s : State) (c : ErrCause) : (s.raise c).params = s.params := by cases c <;> rfl
@[simp] theorem raise_hist (s : State) (c : ErrCause) : (s.raise c).hist = s.hist := by cases c <;> rfl
@[simp] theorem raise_wp (s : State) (c : ErrCause) : (s.raise c).wp = s.wp := by cases c <;> rfl
@[simp] theorem raise_fmode (s : State) (c : ErrCause) : (s.raise c).fmode = s.fmode := by cases c <;> rfl
@[simp] theorem raise_depth (s : State) (c : ErrCause) : (s.raise c).depth = s.depth := by cases c <;> rfl
@[simp] theorem raise_cfgNib (s : State) (c : ErrCause) : (s.raise c).cfgNib = s.cfgNib := by cases c <;> rfl
@[simp] theorem raise_arm (s : State) (c : ErrCause) : (s.raise c).arm = s.arm := by cases c <;> rfl
@[simp] theorem raise_reload (s : State) (c : ErrCause) : (s.raise c).reload = s.reload := by cases c <;> rfl
@[simp] theorem raise_count (s : State) (c : ErrCause) : (s.raise c).count = s.count := by cases c <;> rfl
@[simp] theorem raise_pending (s : State) (c : ErrCause) : (s.raise c).pending = s.pending := by cases c <;> rfl
@[simp] theorem raise_seq (s : State) (c : ErrCause) : (s.raise c).seq = s.seq := by cases c <;> rfl
@[simp] theorem raise_tick (s : State) (c : ErrCause) : (s.raise c).tick = s.tick := by cases c <;> rfl
@[simp] theorem raise_outLatch (s : State) (c : ErrCause) : (s.raise c).outLatch = s.outLatch := by cases c <;> rfl
@[simp] theorem raise_exp (s : State) (c : ErrCause) : (s.raise c).exp = s.exp := by cases c <;> rfl
@[simp] theorem raise_expAddr (s : State) (c : ErrCause) : (s.raise c).expAddr = s.expAddr := by cases c <;> rfl
@[simp] theorem raise_expData (s : State) (c : ErrCause) : (s.raise c).expData = s.expData := by cases c <;> rfl
@[simp] theorem raise_csN (s : State) (c : ErrCause) : (s.raise c).csN = s.csN := by cases c <;> rfl
@[simp] theorem raise_adcWait (s : State) (c : ErrCause) : (s.raise c).adcWait = s.adcWait := by cases c <;> rfl
@[simp] theorem raise_spiWait (s : State) (c : ErrCause) : (s.raise c).spiWait = s.spiWait := by cases c <;> rfl
@[simp] theorem raise_rdata (s : State) (c : ErrCause) : (s.raise c).rdata = s.rdata := by cases c <;> rfl
@[simp] theorem raise_adcStart (s : State) (c : ErrCause) : (s.raise c).adcStart = s.adcStart := by cases c <;> rfl
@[simp] theorem raise_spiTx (s : State) (c : ErrCause) : (s.raise c).spiTx = s.spiTx := by cases c <;> rfl
@[simp] theorem raise_cfgDraws (s : State) (c : ErrCause) : (s.raise c).cfgDraws = s.cfgDraws := by cases c <;> rfl
@[simp] theorem raise_cfgDrawn (s : State) (c : ErrCause) : (s.raise c).cfgDrawn = s.cfgDrawn := by cases c <;> rfl
@[simp] theorem raise_rstHeld (s : State) (c : ErrCause) : (s.raise c).rstHeld = s.rstHeld := by cases c <;> rfl
@[simp] theorem raise_trace (s : State) (c : ErrCause) : (s.raise c).trace = s.trace := by cases c <;> rfl
@[simp] theorem raise_sched (s : State) (c : ErrCause) : (s.raise c).sched = s.sched := by cases c <;> rfl
@[simp] theorem raise_drawn (s : State) (c : ErrCause) : (s.raise c).drawn = s.drawn := by cases c <;> rfl

/-! `resetElements` gives every element its reset value and keeps what is no element of R39. -/

@[simp] theorem resetElements_params (s : State) : s.resetElements.params = s.params := rfl
@[simp] theorem resetElements_hist (s : State) : s.resetElements.hist = Vector.replicate 5 0 := rfl
@[simp] theorem resetElements_wp (s : State) : s.resetElements.wp = 0 := rfl
@[simp] theorem resetElements_fmode (s : State) : s.resetElements.fmode = .uncfg := rfl
@[simp] theorem resetElements_depth (s : State) : s.resetElements.depth = 0 := rfl
@[simp] theorem resetElements_cfgNib (s : State) : s.resetElements.cfgNib = 0 := rfl
@[simp] theorem resetElements_arm (s : State) : s.resetElements.arm = false := rfl
@[simp] theorem resetElements_reload (s : State) : s.resetElements.reload = 0 := rfl
@[simp] theorem resetElements_count (s : State) : s.resetElements.count = 0 := rfl
@[simp] theorem resetElements_pending (s : State) : s.resetElements.pending = false := rfl
@[simp] theorem resetElements_seq (s : State) : s.resetElements.seq = .idle := rfl
@[simp] theorem resetElements_tick (s : State) : s.resetElements.tick = false := rfl
@[simp] theorem resetElements_outLatch (s : State) : s.resetElements.outLatch = 0 := rfl
@[simp] theorem resetElements_exp (s : State) : s.resetElements.exp = .idle := rfl
@[simp] theorem resetElements_expAddr (s : State) : s.resetElements.expAddr = 0 := rfl
@[simp] theorem resetElements_expData (s : State) : s.resetElements.expData = 0 := rfl
@[simp] theorem resetElements_csN (s : State) : s.resetElements.csN = true := rfl
@[simp] theorem resetElements_errOvr (s : State) : s.resetElements.errOvr = false := rfl
@[simp] theorem resetElements_errAdcTo (s : State) : s.resetElements.errAdcTo = false := rfl
@[simp] theorem resetElements_errSpiTo (s : State) : s.resetElements.errSpiTo = false := rfl
@[simp] theorem resetElements_errProto (s : State) : s.resetElements.errProto = false := rfl
@[simp] theorem resetElements_adcWait (s : State) : s.resetElements.adcWait = 0 := rfl
@[simp] theorem resetElements_spiWait (s : State) : s.resetElements.spiWait = 0 := rfl
@[simp] theorem resetElements_rdata (s : State) : s.resetElements.rdata = s.rdata := rfl
@[simp] theorem resetElements_adcStart (s : State) : s.resetElements.adcStart = false := rfl
@[simp] theorem resetElements_spiTx (s : State) : s.resetElements.spiTx = none := rfl
@[simp] theorem resetElements_cfgDraws (s : State) : s.resetElements.cfgDraws = s.cfgDraws := rfl
@[simp] theorem resetElements_cfgDrawn (s : State) : s.resetElements.cfgDrawn = s.cfgDrawn := rfl
@[simp] theorem resetElements_rstHeld (s : State) : s.resetElements.rstHeld = s.rstHeld := rfl
@[simp] theorem resetElements_trace (s : State) : s.resetElements.trace = s.trace := rfl
@[simp] theorem resetElements_sched (s : State) : s.resetElements.sched = s.sched := rfl
@[simp] theorem resetElements_drawn (s : State) : s.resetElements.drawn = s.drawn := rfl

/-! `takeTurn` uses up a turn and ends the pulses of the last one. -/

@[simp] theorem takeTurn_params (s : State) : s.takeTurn.params = s.params := by
  unfold State.takeTurn State.popTurn; split <;> rfl
@[simp] theorem takeTurn_hist (s : State) : s.takeTurn.hist = s.hist := by
  unfold State.takeTurn State.popTurn; split <;> rfl
@[simp] theorem takeTurn_wp (s : State) : s.takeTurn.wp = s.wp := by
  unfold State.takeTurn State.popTurn; split <;> rfl
@[simp] theorem takeTurn_fmode (s : State) : s.takeTurn.fmode = s.fmode := by
  unfold State.takeTurn State.popTurn; split <;> rfl
@[simp] theorem takeTurn_depth (s : State) : s.takeTurn.depth = s.depth := by
  unfold State.takeTurn State.popTurn; split <;> rfl
@[simp] theorem takeTurn_cfgNib (s : State) : s.takeTurn.cfgNib = s.cfgNib := by
  unfold State.takeTurn State.popTurn; split <;> rfl
@[simp] theorem takeTurn_arm (s : State) : s.takeTurn.arm = s.arm := by
  unfold State.takeTurn State.popTurn; split <;> rfl
@[simp] theorem takeTurn_reload (s : State) : s.takeTurn.reload = s.reload := by
  unfold State.takeTurn State.popTurn; split <;> rfl
@[simp] theorem takeTurn_count (s : State) : s.takeTurn.count = s.count := by
  unfold State.takeTurn State.popTurn; split <;> rfl
@[simp] theorem takeTurn_pending (s : State) : s.takeTurn.pending = s.pending := by
  unfold State.takeTurn State.popTurn; split <;> rfl
@[simp] theorem takeTurn_seq (s : State) : s.takeTurn.seq = s.seq := by
  unfold State.takeTurn State.popTurn; split <;> rfl
@[simp] theorem takeTurn_tick (s : State) : s.takeTurn.tick = s.tick := by
  unfold State.takeTurn State.popTurn; split <;> rfl
@[simp] theorem takeTurn_outLatch (s : State) : s.takeTurn.outLatch = s.outLatch := by
  unfold State.takeTurn State.popTurn; split <;> rfl
@[simp] theorem takeTurn_exp (s : State) : s.takeTurn.exp = s.exp := by
  unfold State.takeTurn State.popTurn; split <;> rfl
@[simp] theorem takeTurn_expAddr (s : State) : s.takeTurn.expAddr = s.expAddr := by
  unfold State.takeTurn State.popTurn; split <;> rfl
@[simp] theorem takeTurn_expData (s : State) : s.takeTurn.expData = s.expData := by
  unfold State.takeTurn State.popTurn; split <;> rfl
@[simp] theorem takeTurn_csN (s : State) : s.takeTurn.csN = s.csN := by
  unfold State.takeTurn State.popTurn; split <;> rfl
@[simp] theorem takeTurn_errOvr (s : State) : s.takeTurn.errOvr = s.errOvr := by
  unfold State.takeTurn State.popTurn; split <;> rfl
@[simp] theorem takeTurn_errAdcTo (s : State) : s.takeTurn.errAdcTo = s.errAdcTo := by
  unfold State.takeTurn State.popTurn; split <;> rfl
@[simp] theorem takeTurn_errSpiTo (s : State) : s.takeTurn.errSpiTo = s.errSpiTo := by
  unfold State.takeTurn State.popTurn; split <;> rfl
@[simp] theorem takeTurn_errProto (s : State) : s.takeTurn.errProto = s.errProto := by
  unfold State.takeTurn State.popTurn; split <;> rfl
@[simp] theorem takeTurn_adcWait (s : State) : s.takeTurn.adcWait = s.adcWait := by
  unfold State.takeTurn State.popTurn; split <;> rfl
@[simp] theorem takeTurn_spiWait (s : State) : s.takeTurn.spiWait = s.spiWait := by
  unfold State.takeTurn State.popTurn; split <;> rfl
@[simp] theorem takeTurn_rdata (s : State) : s.takeTurn.rdata = none := rfl
@[simp] theorem takeTurn_adcStart (s : State) : s.takeTurn.adcStart = false := rfl
@[simp] theorem takeTurn_spiTx (s : State) : s.takeTurn.spiTx = none := rfl
@[simp] theorem takeTurn_cfgDraws (s : State) : s.takeTurn.cfgDraws = s.cfgDraws := by
  unfold State.takeTurn State.popTurn; split <;> rfl
@[simp] theorem takeTurn_cfgDrawn (s : State) : s.takeTurn.cfgDrawn = s.cfgDrawn := by
  unfold State.takeTurn State.popTurn; split <;> rfl
@[simp] theorem takeTurn_rstHeld (s : State) : s.takeTurn.rstHeld = rstAfter s.nextTurn := rfl
@[simp] theorem takeTurn_trace (s : State) : s.takeTurn.trace = s.trace := by
  unfold State.takeTurn State.popTurn; split <;> rfl

/-! `takeCfgIn` uses up a draw of CFG_IN and changes nothing else. -/

@[simp] theorem takeCfgIn_params (s : State) : s.takeCfgIn.params = s.params := rfl
@[simp] theorem takeCfgIn_hist (s : State) : s.takeCfgIn.hist = s.hist := rfl
@[simp] theorem takeCfgIn_wp (s : State) : s.takeCfgIn.wp = s.wp := rfl
@[simp] theorem takeCfgIn_fmode (s : State) : s.takeCfgIn.fmode = s.fmode := rfl
@[simp] theorem takeCfgIn_depth (s : State) : s.takeCfgIn.depth = s.depth := rfl
@[simp] theorem takeCfgIn_cfgNib (s : State) : s.takeCfgIn.cfgNib = s.cfgNib := rfl
@[simp] theorem takeCfgIn_arm (s : State) : s.takeCfgIn.arm = s.arm := rfl
@[simp] theorem takeCfgIn_reload (s : State) : s.takeCfgIn.reload = s.reload := rfl
@[simp] theorem takeCfgIn_count (s : State) : s.takeCfgIn.count = s.count := rfl
@[simp] theorem takeCfgIn_pending (s : State) : s.takeCfgIn.pending = s.pending := rfl
@[simp] theorem takeCfgIn_seq (s : State) : s.takeCfgIn.seq = s.seq := rfl
@[simp] theorem takeCfgIn_tick (s : State) : s.takeCfgIn.tick = s.tick := rfl
@[simp] theorem takeCfgIn_outLatch (s : State) : s.takeCfgIn.outLatch = s.outLatch := rfl
@[simp] theorem takeCfgIn_exp (s : State) : s.takeCfgIn.exp = s.exp := rfl
@[simp] theorem takeCfgIn_expAddr (s : State) : s.takeCfgIn.expAddr = s.expAddr := rfl
@[simp] theorem takeCfgIn_expData (s : State) : s.takeCfgIn.expData = s.expData := rfl
@[simp] theorem takeCfgIn_csN (s : State) : s.takeCfgIn.csN = s.csN := rfl
@[simp] theorem takeCfgIn_errOvr (s : State) : s.takeCfgIn.errOvr = s.errOvr := rfl
@[simp] theorem takeCfgIn_errAdcTo (s : State) : s.takeCfgIn.errAdcTo = s.errAdcTo := rfl
@[simp] theorem takeCfgIn_errSpiTo (s : State) : s.takeCfgIn.errSpiTo = s.errSpiTo := rfl
@[simp] theorem takeCfgIn_errProto (s : State) : s.takeCfgIn.errProto = s.errProto := rfl
@[simp] theorem takeCfgIn_adcWait (s : State) : s.takeCfgIn.adcWait = s.adcWait := rfl
@[simp] theorem takeCfgIn_spiWait (s : State) : s.takeCfgIn.spiWait = s.spiWait := rfl
@[simp] theorem takeCfgIn_rdata (s : State) : s.takeCfgIn.rdata = s.rdata := rfl
@[simp] theorem takeCfgIn_adcStart (s : State) : s.takeCfgIn.adcStart = s.adcStart := rfl
@[simp] theorem takeCfgIn_spiTx (s : State) : s.takeCfgIn.spiTx = s.spiTx := rfl
@[simp] theorem takeCfgIn_rstHeld (s : State) : s.takeCfgIn.rstHeld = s.rstHeld := rfl
@[simp] theorem takeCfgIn_trace (s : State) : s.takeCfgIn.trace = s.trace := rfl
@[simp] theorem takeCfgIn_sched (s : State) : s.takeCfgIn.sched = s.sched := rfl
@[simp] theorem takeCfgIn_drawn (s : State) : s.takeCfgIn.drawn = s.drawn := rfl

/-! `clockEdge` changes the wait counters and lists the due timeouts. -/

@[simp] theorem clockEdge_params (s : State) : (clockEdge s).params = s.params := rfl
@[simp] theorem clockEdge_hist (s : State) : (clockEdge s).hist = s.hist := rfl
@[simp] theorem clockEdge_wp (s : State) : (clockEdge s).wp = s.wp := rfl
@[simp] theorem clockEdge_fmode (s : State) : (clockEdge s).fmode = s.fmode := rfl
@[simp] theorem clockEdge_depth (s : State) : (clockEdge s).depth = s.depth := rfl
@[simp] theorem clockEdge_cfgNib (s : State) : (clockEdge s).cfgNib = s.cfgNib := rfl
@[simp] theorem clockEdge_arm (s : State) : (clockEdge s).arm = s.arm := rfl
@[simp] theorem clockEdge_reload (s : State) : (clockEdge s).reload = s.reload := rfl
@[simp] theorem clockEdge_count (s : State) : (clockEdge s).count = s.count := rfl
@[simp] theorem clockEdge_pending (s : State) : (clockEdge s).pending = s.pending := rfl
@[simp] theorem clockEdge_seq (s : State) : (clockEdge s).seq = s.seq := rfl
@[simp] theorem clockEdge_tick (s : State) : (clockEdge s).tick = s.tick := rfl
@[simp] theorem clockEdge_outLatch (s : State) : (clockEdge s).outLatch = s.outLatch := rfl
@[simp] theorem clockEdge_exp (s : State) : (clockEdge s).exp = s.exp := rfl
@[simp] theorem clockEdge_expAddr (s : State) : (clockEdge s).expAddr = s.expAddr := rfl
@[simp] theorem clockEdge_expData (s : State) : (clockEdge s).expData = s.expData := rfl
@[simp] theorem clockEdge_csN (s : State) : (clockEdge s).csN = s.csN := rfl
@[simp] theorem clockEdge_errOvr (s : State) : (clockEdge s).errOvr = s.errOvr := rfl
@[simp] theorem clockEdge_errAdcTo (s : State) : (clockEdge s).errAdcTo = s.errAdcTo := rfl
@[simp] theorem clockEdge_errSpiTo (s : State) : (clockEdge s).errSpiTo = s.errSpiTo := rfl
@[simp] theorem clockEdge_errProto (s : State) : (clockEdge s).errProto = s.errProto := rfl
@[simp] theorem clockEdge_rdata (s : State) : (clockEdge s).rdata = s.rdata := rfl
@[simp] theorem clockEdge_adcStart (s : State) : (clockEdge s).adcStart = s.adcStart := rfl
@[simp] theorem clockEdge_spiTx (s : State) : (clockEdge s).spiTx = s.spiTx := rfl
@[simp] theorem clockEdge_cfgDraws (s : State) : (clockEdge s).cfgDraws = s.cfgDraws := rfl
@[simp] theorem clockEdge_cfgDrawn (s : State) : (clockEdge s).cfgDrawn = s.cfgDrawn := rfl
@[simp] theorem clockEdge_rstHeld (s : State) : (clockEdge s).rstHeld = s.rstHeld := rfl
@[simp] theorem clockEdge_trace (s : State) : (clockEdge s).trace = s.trace := rfl
@[simp] theorem clockEdge_drawn (s : State) : (clockEdge s).drawn = s.drawn := rfl

end Sys2Proof.Machine
end

