-- ==== Sys2Proof/Laws/Ops.lean ====
section
/-! SUPPORT. One lemma per shared operation that says once everything the operation can do. -/

namespace Sys2Proof.Machine

theorem emit_eq (s : State) (e : TraceEvent) : s.emit e = { s with trace := s.trace ++ [e] } := rfl

theorem raise_ovr_eq (s : State) : s.raise .ovr = { s with errOvr := true } := rfl

theorem raise_adcTo_eq (s : State) : s.raise .adcTo = { s with errAdcTo := true } := rfl

theorem raise_spiTo_eq (s : State) (k : Nat) : s.raise (.spiTo k) = { s with errSpiTo := true } := rfl

theorem raise_proto_eq (s : State) (r : ProtoReason) : s.raise (.proto r) = { s with errProto := true } := rfl

theorem tickDue_iff (s : State) : s.tickDue = true ↔ s.seq = .idle ∧ s.arm = true ∧ s.pending = true := by
  simp [State.tickDue, and_assoc]

theorem enterTick_eq (s : State) : s.enterTick =
    { s with count := s.reload, tick := true, trace := s.trace ++ [.tickRise], seq := .sampling } := rfl

theorem leaveTick_eq (s : State) : s.leaveTick =
    { s with tick := false, trace := s.trace ++ [.tickFall], pending := false, seq := .idle } := rfl

/-- A read of CFG_IN takes the next listed value, or draws a free one (R38). -/
theorem cfgIn_cases (s : State) :
    (∃ n ns, s.cfgDraws = n :: ns ∧ s.cfgIn = n ∧ s.takeCfgIn = { s with cfgDraws := ns }) ∨
    (s.cfgDraws = [] ∧ s.cfgIn = Config.freeCfgIn s.cfgDrawn ∧
      s.takeCfgIn = { s with cfgDrawn := s.cfgDrawn + 1 }) := by
  unfold State.cfgIn State.takeCfgIn
  cases h : s.cfgDraws with
  | cons n ns => exact .inl ⟨n, ns, rfl, rfl, rfl⟩
  | nil => exact .inr ⟨rfl, rfl, by simp⟩

/-- Configure works once; a later one only raises ERR_PROTO (R171, R173). -/
theorem configure_cases (s : State) :
    (s.fmode = .uncfg ∧ configure s =
      { s with
        cfgDraws := s.cfgDraws.tail
        cfgDrawn := if s.cfgDraws.isEmpty then s.cfgDrawn + 1 else s.cfgDrawn
        cfgNib := s.cfgIn
        fmode := nibbleMode s.cfgIn
        depth := nibbleDepth s.cfgIn
        hist := Vector.replicate 5 0
        wp := 0 }) ∨
    (s.fmode ≠ .uncfg ∧ configure s = { s with errProto := true }) := by
  unfold configure
  cases h : s.fmode <;> simp [h, State.takeCfgIn, raise_proto_eq]

/-- The mode and the depth of a nibble (R172). -/
theorem nibble_cases (n : Nibble) :
    (n.toNat < 4 ∧ nibbleMode n = .active ∧ (nibbleDepth n).toNat = n.toNat + 2) ∨
    (4 ≤ n.toNat ∧ nibbleMode n = .inactive ∧ nibbleDepth n = 0) := by
  revert n; decide

/-- Update writes the history and advances WP in mode ACTIVE, and changes nothing elsewhere (R176 to R178). -/
theorem update_cases (s : State) (raw : Word) :
    (s.fmode = .active ∧ update s raw =
      ({ s with
        hist := s.hist.setIfInBounds s.wp.toNat raw
        wp := BitVec.ofNat 3 ((s.wp.toNat + 1) % s.depth.toNat) },
       histSum (s.hist.setIfInBounds s.wp.toNat raw) s.depth.toNat / s.depth.toNat)) ∨
    (s.fmode ≠ .active ∧ update s raw = (s, 0)) := by
  unfold update
  cases h : s.fmode <;> simp

theorem expire_eq (s : State) : expire s = { s with pending := true, errOvr := s.errOvr || s.pending } := by
  unfold expire
  cases h : s.pending <;> simp [raise_ovr_eq]

theorem sub_one_eq_zero (c : Word) : c - 1 = 0 ↔ c = 1 := by
  bv_omega

/-- A count-enable pulse counts, expires or changes nothing (R200). -/
theorem countDown_cases (s : State) :
    (s.arm = true ∧ s.count ≠ 0 ∧ s.count ≠ 1 ∧ countDown s = { s with count := s.count - 1 }) ∨
    (s.arm = true ∧ s.count = 1 ∧
      countDown s = { s with count := 0, pending := true, errOvr := s.errOvr || s.pending }) ∨
    ((s.arm = false ∨ s.count = 0) ∧ countDown s = s) := by
  unfold countDown
  by_cases ha : s.arm = true
  · by_cases h0 : s.count = 0
    · simp [h0]
    · by_cases h1 : s.count = 1
      · right; left
        exact ⟨ha, h1, by simp [ha, h1, expire_eq]⟩
      · have h2 : ¬ s.count - 1 = 0 := fun h => h1 ((sub_one_eq_zero _).1 h)
        left
        exact ⟨ha, h0, h1, by simp only [ha, bne_iff_ne, ne_eq, h0, not_false_eq_true, beq_iff_eq, h2,
          if_true, if_false, Bool.true_and]⟩
  · simp [ha]

/-- Arming: refused without a configuration, and no change where already armed (R209). -/
theorem armRequest_cases (s : State) :
    (s.fmode = .uncfg ∧ armRequest s = { s with errProto := true }) ∨
    (s.fmode ≠ .uncfg ∧ s.arm = true ∧ armRequest s = s) ∨
    (s.fmode ≠ .uncfg ∧ s.arm = false ∧ armRequest s = { s with arm := true, count := s.reload }) := by
  unfold armRequest
  cases h : s.fmode <;> cases h' : s.arm <;> simp [h, h', raise_proto_eq]

theorem startConversion_eq (s : State) : startConversion s =
    { s with
      adcStart := true
      trace := s.trace ++ [.adcStart]
      adcWait := if isBounded s.params.adcTimeout then 0 else s.adcWait
      seq := .converting } := by
  unfold startConversion
  cases h : s.params.adcTimeout <;> simp [State.emit, isBounded, h]

/-- The third step of a tick, in mode ACTIVE and elsewhere (R205, R176, R177). -/
theorem takeSample_cases (s : State) (v : Word) :
    (s.fmode = .active ∧ takeSample s v =
      let raw := sampleValue s.params v
      let hist := s.hist.setIfInBounds s.wp.toNat raw
      let y := latchValue s.params (histSum hist s.depth.toNat / s.depth.toNat)
      { s with
        hist := hist
        wp := BitVec.ofNat 3 ((s.wp.toNat + 1) % s.depth.toNat)
        outLatch := y
        trace := s.trace ++ [.outWrite y]
        seq := .done }) ∨
    (s.fmode ≠ .active ∧ takeSample s v = { s with outLatch := 0, trace := s.trace ++ [.outWrite 0], seq := .done }) := by
  rcases update_cases s (sampleValue s.params v) with ⟨h, e⟩ | ⟨h, e⟩
  · left; exact ⟨h, by unfold takeSample; rw [e]; rfl⟩
  · right; exact ⟨h, by unfold takeSample; rw [e]; simp [latchValue, truncTo, State.emit]⟩

theorem adcGiveUp_eq (s : State) : adcGiveUp s = { s with seq := .fault, errAdcTo := true } := rfl

theorem sendByte_eq (s : State) (b : Byte) : sendByte s b =
    { s with
      spiTx := some b
      trace := s.trace ++ [.tx b]
      spiWait := if isBounded s.params.spiTimeout then 0 else s.spiWait } := by
  unfold sendByte
  cases h : s.params.spiTimeout <;> simp [State.emit, isBounded, h]

theorem startFrame_eq (s : State) : startFrame s =
    { s with
      csN := false
      exp := .b0
      spiTx := some s.params.writeOpcode
      trace := s.trace ++ [.csAssert, .tx s.params.writeOpcode]
      spiWait := if isBounded s.params.spiTimeout then 0 else s.spiWait } := by
  unfold startFrame
  rw [sendByte_eq]
  simp [State.emit]
  rfl

/-- A transfer-complete sends the next byte, ends the frame, or is ignored (R143, R144). -/
theorem byteDone_cases (s : State) :
    (s.exp = .b0 ∧ byteDone s =
      { s with
        exp := .b1
        spiTx := some s.expAddr
        trace := s.trace ++ [.tx s.expAddr]
        spiWait := if isBounded s.params.spiTimeout then 0 else s.spiWait }) ∨
    (s.exp = .b1 ∧ byteDone s =
      { s with
        exp := .b2
        spiTx := some s.expData
        trace := s.trace ++ [.tx s.expData]
        spiWait := if isBounded s.params.spiTimeout then 0 else s.spiWait }) ∨
    (s.exp = .b2 ∧ byteDone s = { s with csN := true, trace := s.trace ++ [.csDeassert], exp := .idle }) ∨
    ((s.exp = .idle ∨ s.exp = .fault) ∧ byteDone s = s) := by
  unfold byteDone
  cases h : s.exp <;> simp [sendByte_eq, State.emit]

theorem spiGiveUp_eq (s : State) : spiGiveUp s =
    { s with csN := true, trace := s.trace ++ [.csDeassert], exp := .fault, errSpiTo := true } := rfl

/-- A write of EXPCMD starts a frame, raises ERR_PROTO, or does nothing (R111). -/
theorem writeExpcmd_cases (s : State) (d : Word) :
    (s.exp = .idle ∧ writeExpcmd s d =
      { s with
        expAddr := addrByte d
        expData := dataByte d
        csN := false
        exp := .b0
        spiTx := some s.params.writeOpcode
        trace := s.trace ++ [.csAssert, .tx s.params.writeOpcode]
        spiWait := if isBounded s.params.spiTimeout then 0 else s.spiWait }) ∨
    (s.exp.busy = true ∧ writeExpcmd s d = { s with errProto := true }) ∨
    (s.exp = .fault ∧ writeExpcmd s d = s) := by
  unfold writeExpcmd
  cases h : s.exp <;> simp [h, startFrame_eq, raise_proto_eq, ExpState.busy]

theorem resetBlock_eq (s : State) : resetBlock s =
    { s.resetElements with
      trace := s.trace ++ (if s.csN then [.reset] else [.csDeassert, .reset]) } := by
  unfold resetBlock
  cases h : s.csN <;> simp [State.emit, State.resetElements]

/-- A bounded wait for ADC_DONE is in progress. -/
theorem adcWaits_iff (s : State) :
    s.adcWaits = true ↔ (∃ n, s.params.adcTimeout = .bounded n) ∧ s.seq = .converting := by
  unfold State.adcWaits
  cases h : s.params.adcTimeout <;> simp [isBounded]

/-- A bounded wait for SPI_DONE is in progress. -/
theorem spiWaits_iff (s : State) :
    s.spiWaits = true ↔ (∃ n, s.params.spiTimeout = .bounded n) ∧ s.exp.busy = true := by
  unfold State.spiWaits
  cases h : s.params.spiTimeout <;> simp [isBounded]

/-- A CLK edge in the wait for ADC_DONE, and outside it (R37, R207). -/
theorem clockEdge_adc (s : State) :
    (s.adcWaits = false ∧ (clockEdge s).adcWait = s.adcWait ∧ s.countWaits.adcDue = false) ∨
    ∃ n, s.params.adcTimeout = .bounded n ∧ s.seq = .converting ∧ (clockEdge s).adcWait = s.adcWait + 1 ∧
      s.countWaits.adcDue = decide (n ≤ s.adcWait + 1) := by
  cases hw : s.adcWaits with
  | false =>
    exact .inl ⟨rfl, by simp [clockEdge, State.countWaits, hw], by
      show (s.adcWaits && _) = false
      rw [hw]; rfl⟩
  | true =>
    obtain ⟨⟨n, hn⟩, hs⟩ := (adcWaits_iff s).1 hw
    refine .inr ⟨n, hn, hs, by simp [clockEdge, State.countWaits, hw], ?_⟩
    show (s.adcWaits && reached s.params.adcTimeout s.countWaits.adcWait) = _
    simp [State.countWaits, hw, hn, reached]

/-- A CLK edge in the wait for SPI_DONE, and outside it (R37, R147). -/
theorem clockEdge_spi (s : State) :
    (s.spiWaits = false ∧ (clockEdge s).spiWait = s.spiWait ∧ s.countWaits.spiDue = false) ∨
    ∃ n, s.params.spiTimeout = .bounded n ∧ s.exp.busy = true ∧ (clockEdge s).spiWait = s.spiWait + 1 ∧
      s.countWaits.spiDue = decide (n ≤ s.spiWait + 1) := by
  cases hw : s.spiWaits with
  | false =>
    exact .inl ⟨rfl, by simp [clockEdge, State.countWaits, hw], by
      show (s.spiWaits && _) = false
      rw [hw]; rfl⟩
  | true =>
    obtain ⟨⟨n, hn⟩, hs⟩ := (spiWaits_iff s).1 hw
    refine .inr ⟨n, hn, hs, by simp [clockEdge, State.countWaits, hw], ?_⟩
    show (s.spiWaits && reached s.params.spiTimeout s.countWaits.spiWait) = _
    simp [State.countWaits, hw, hn, reached]

/-- What a CLK edge lists: the timeouts of the waits that reached their bounds, ADC_TIMEOUT first. -/
theorem clockEdge_sched (s : State) : (clockEdge s).sched =
    (if s.countWaits.adcDue then [.event .adcTimeout] else []) ++
      ((if s.countWaits.spiDue then [.event .spiTimeout] else []) ++ s.sched) := by
  simp [clockEdge, State.dueTimeouts]

end Sys2Proof.Machine
end

