-- ==== Sys2Proof/Laws/Exec.lean ====
section
/-! SUPPORT. Everything one step can do, said once: `Effect i s t` has one constructor per case, and an answer of `exec`
is one of them. A proof about every step takes `cases` on it. -/

namespace Sys2Proof.Machine

/-- The register that a read answers. -/
def readAddr : Instr → Option Three
  | .rdCtrl => some 0
  | .rdStatus => some 1
  | .rdReload => some 2
  | .rdCount => some 3
  | .rdOut => some 4
  | .rdExpcmd => some 5
  | .rdCfg => some 6
  | .rdRsv7 => some 7
  | _ => none

/-- Where a step leaves the state as it is: the ignored writes, and a step that is not enabled. -/
def Stays (i : Instr) (s : State) : Prop :=
  match i with
  | .wrStatus _ | .wrCount _ | .wrOut _ | .wrCfg _ | .wrRsv7 _ => True
  | .wrExpcmd _ => s.exp = .fault
  | .tce => s.arm = false ∨ s.count = 0
  | .seqT1 => ¬ (s.seq = .idle ∧ s.arm = true ∧ s.pending = true)
  | .seqT2 => s.seq ≠ .sampling
  | .adcDone _ => s.seq ≠ .converting
  | .seqT4 => s.seq ≠ .done
  | .adcTimeout => ¬ (isBounded s.params.adcTimeout = true ∧ s.seq = .converting)
  | .spiDone => s.exp = .idle ∨ s.exp = .fault
  | .spiTimeout => ¬ (isBounded s.params.spiTimeout = true ∧ s.exp.busy = true)
  | .rdCtrl | .rdStatus | .rdReload | .rdCount | .rdOut | .rdExpcmd | .rdCfg | .rdRsv7
  | .wrCtrl _ | .wrReload _ | .reset => False

/-- What one step does: the step, the state before it and the state after it. -/
inductive Effect : Instr → State → State → Prop
  | read (i : Instr) (s : State) (a : Three) (hi : readAddr i = some a) :
      Effect i s { s with rdata := some (regRead s a) }
  | same (i : Instr) (s : State) (hi : Stays i s) : Effect i s s
  | wrReload (s : State) (d : Word) : Effect (.wrReload d) s { s with reload := reloadValue s.params d }
  | wrCtrlConfigure (s : State) (d : Word) (hm : s.fmode = .uncfg) (h1 : configureBit d = true) :
      Effect (.wrCtrl d) s
        { s with
          cfgDraws := s.cfgDraws.tail
          cfgDrawn := if s.cfgDraws.isEmpty then s.cfgDrawn + 1 else s.cfgDrawn
          cfgNib := s.cfgIn
          fmode := nibbleMode s.cfgIn
          depth := nibbleDepth s.cfgIn
          hist := Vector.replicate 5 0
          wp := 0
          arm := armBit d
          count := if armBit d && !s.arm then s.reload else s.count }
  | wrCtrlConfigured (s : State) (d : Word) (hm : s.fmode ≠ .uncfg) :
      Effect (.wrCtrl d) s
        { s with
          errProto := s.errProto || configureBit d
          arm := armBit d
          count := if armBit d && !s.arm then s.reload else s.count }
  | wrCtrlRefused (s : State) (d : Word) (hm : s.fmode = .uncfg) (h1 : configureBit d = false) :
      Effect (.wrCtrl d) s { s with errProto := s.errProto || armBit d, arm := s.arm && armBit d }
  | wrExpcmdStart (s : State) (d : Word) (he : s.exp = .idle) :
      Effect (.wrExpcmd d) s
        { s with
          expAddr := addrByte d
          expData := dataByte d
          csN := false
          exp := .b0
          spiTx := some s.params.writeOpcode
          trace := s.trace ++ [.csAssert, .tx s.params.writeOpcode]
          spiWait := if isBounded s.params.spiTimeout then 0 else s.spiWait }
  | wrExpcmdBusy (s : State) (d : Word) (he : s.exp.busy = true) : Effect (.wrExpcmd d) s { s with errProto := true }
  | tceCount (s : State) (ha : s.arm = true) (h0 : s.count ≠ 0) (h1 : s.count ≠ 1) :
      Effect .tce s { s with count := s.count - 1 }
  | tceExpire (s : State) (ha : s.arm = true) (h1 : s.count = 1) :
      Effect .tce s { s with count := 0, pending := true, errOvr := s.errOvr || s.pending }
  | seqT1 (s : State) (hs : s.seq = .idle) (ha : s.arm = true) (hp : s.pending = true) :
      Effect .seqT1 s { s with count := s.reload, tick := true, trace := s.trace ++ [.tickRise], seq := .sampling }
  | seqT2 (s : State) (hs : s.seq = .sampling) :
      Effect .seqT2 s
        { s with
          adcStart := true
          trace := s.trace ++ [.adcStart]
          adcWait := if isBounded s.params.adcTimeout then 0 else s.adcWait
          seq := .converting }
  | adcDoneActive (s : State) (v : Word) (hs : s.seq = .converting) (hm : s.fmode = .active) (h : Vector Word 5)
      (hh : h = s.hist.setIfInBounds s.wp.toNat (sampleValue s.params v)) (y : Word)
      (hy : y = latchValue s.params (histSum h s.depth.toNat / s.depth.toNat)) :
      Effect (.adcDone v) s
        { s with
          hist := h
          wp := BitVec.ofNat 3 ((s.wp.toNat + 1) % s.depth.toNat)
          outLatch := y
          trace := s.trace ++ [.outWrite y]
          seq := .done }
  | adcDoneOther (s : State) (v : Word) (hs : s.seq = .converting) (hm : s.fmode ≠ .active) :
      Effect (.adcDone v) s { s with outLatch := 0, trace := s.trace ++ [.outWrite 0], seq := .done }
  | seqT4 (s : State) (hs : s.seq = .done) :
      Effect .seqT4 s { s with tick := false, trace := s.trace ++ [.tickFall], pending := false, seq := .idle }
  | adcTimeout (s : State) (hb : isBounded s.params.adcTimeout = true) (hs : s.seq = .converting) :
      Effect .adcTimeout s { s with seq := .fault, errAdcTo := true }
  | spiDone0 (s : State) (he : s.exp = .b0) :
      Effect .spiDone s
        { s with
          exp := .b1
          spiTx := some s.expAddr
          trace := s.trace ++ [.tx s.expAddr]
          spiWait := if isBounded s.params.spiTimeout then 0 else s.spiWait }
  | spiDone1 (s : State) (he : s.exp = .b1) :
      Effect .spiDone s
        { s with
          exp := .b2
          spiTx := some s.expData
          trace := s.trace ++ [.tx s.expData]
          spiWait := if isBounded s.params.spiTimeout then 0 else s.spiWait }
  | spiDone2 (s : State) (he : s.exp = .b2) :
      Effect .spiDone s { s with csN := true, trace := s.trace ++ [.csDeassert], exp := .idle }
  | spiTimeout (s : State) (hb : isBounded s.params.spiTimeout = true) (he : s.exp.busy = true) :
      Effect .spiTimeout s
        { s with csN := true, trace := s.trace ++ [.csDeassert], exp := .fault, errSpiTo := true }
  | reset (s : State) :
      Effect .reset s
        { s.resetElements with trace := s.trace ++ (if s.csN then [.reset] else [.csDeassert, .reset]) }

/-- A write of CTRL does one of three things (R101). -/
theorem writeCtrl_effect (s : State) (d : Word) : Effect (.wrCtrl d) s (writeCtrl s d) := by
  have key : writeCtrl s d =
      if s.fmode = .uncfg then
        if configureBit d then
          { s with
            cfgDraws := s.cfgDraws.tail
            cfgDrawn := if s.cfgDraws.isEmpty then s.cfgDrawn + 1 else s.cfgDrawn
            cfgNib := s.cfgIn
            fmode := nibbleMode s.cfgIn
            depth := nibbleDepth s.cfgIn
            hist := Vector.replicate 5 0
            wp := 0
            arm := armBit d
            count := if armBit d && !s.arm then s.reload else s.count }
        else { s with errProto := s.errProto || armBit d, arm := s.arm && armBit d }
      else
        { s with
          errProto := s.errProto || configureBit d
          arm := armBit d
          count := if armBit d && !s.arm then s.reload else s.count } := by
    unfold writeCtrl
    cases h1 : configureBit d <;> cases h0 : armBit d <;> cases hm : s.fmode <;> cases ha : s.arm <;>
      rcases nibble_cases s.cfgIn with ⟨-, hn, -⟩ | ⟨-, hn, -⟩ <;>
      simp [configure, State.takeCfgIn, armRequest, disarm, raise_proto_eq, hm, hn] <;> (try simp [← hm]) <;> (try simp [← ha])
  rw [key]
  split
  · next hm =>
    split
    · next h1 => exact .wrCtrlConfigure s d hm h1
    · next h1 => exact .wrCtrlRefused s d hm (by simpa using h1)
  · next hm => exact .wrCtrlConfigured s d hm

/-- Every answer of `exec` is one of the effects. -/
theorem exec_effect {i : Instr} {s t : State} (h : exec i s = .next t) : Effect i s t := by
  cases i with
  | rdCtrl | rdStatus | rdReload | rdCount | rdOut | rdExpcmd | rdCfg | rdRsv7 =>
    cases h; exact .read _ _ _ rfl
  | wrStatus d | wrCount d | wrOut d | wrCfg d | wrRsv7 d => cases h; exact .same _ _ trivial
  | wrCtrl d => cases h; exact writeCtrl_effect s d
  | wrReload d => cases h; exact .wrReload s d
  | wrExpcmd d =>
    cases h
    change Effect _ s (writeExpcmd s d)
    rcases writeExpcmd_cases s d with ⟨he, e⟩ | ⟨he, e⟩ | ⟨he, e⟩ <;> rw [e]
    · exact .wrExpcmdStart s d he
    · exact .wrExpcmdBusy s d he
    · exact .same _ _ he
  | tce =>
    cases h
    rcases countDown_cases s with ⟨ha, h0, h1, e⟩ | ⟨ha, h1, e⟩ | ⟨h0, e⟩ <;> rw [e]
    · exact .tceCount s ha h0 h1
    · exact .tceExpire s ha h1
    · exact .same _ _ h0
  | seqT1 =>
    cases h
    split
    · next hd =>
      obtain ⟨hs, ha, hp⟩ := (tickDue_iff s).1 hd
      rw [enterTick_eq]; exact .seqT1 s hs ha hp
    · next hd => exact .same _ _ (mt (tickDue_iff s).2 hd)
  | seqT2 =>
    cases h
    split
    · next hs => rw [startConversion_eq]; exact .seqT2 s (by simpa using hs)
    · next hs => exact .same _ _ (by simpa [Stays] using hs)
  | adcDone v =>
    cases h
    split
    · next hs =>
      rcases takeSample_cases s v with ⟨hm, e⟩ | ⟨hm, e⟩ <;> rw [e]
      · exact .adcDoneActive s v (by simpa using hs) hm _ rfl _ rfl
      · exact .adcDoneOther s v (by simpa using hs) hm
    · next hs => exact .same _ _ (by simpa [Stays] using hs)
  | seqT4 =>
    cases h
    split
    · next hs => rw [leaveTick_eq]; exact .seqT4 s (by simpa using hs)
    · next hs => exact .same _ _ (by simpa [Stays] using hs)
  | adcTimeout =>
    cases h
    split
    · next hb =>
      obtain ⟨hb, hs⟩ := by simpa using hb
      rw [adcGiveUp_eq]; exact .adcTimeout s hb hs
    · next hb => exact .same _ _ (by simpa [Stays] using hb)
  | spiDone =>
    cases h
    rcases byteDone_cases s with ⟨he, e⟩ | ⟨he, e⟩ | ⟨he, e⟩ | ⟨he, e⟩ <;> rw [e]
    · exact .spiDone0 s he
    · exact .spiDone1 s he
    · exact .spiDone2 s he
    · exact .same _ _ he
  | spiTimeout =>
    cases h
    split
    · next hb =>
      obtain ⟨hb, he⟩ := by simpa using hb
      rw [spiGiveUp_eq]; exact .spiTimeout s hb he
    · next hb => exact .same _ _ (by simpa [Stays] using hb)
  | reset => cases h; rw [resetBlock_eq]; exact .reset s

end Sys2Proof.Machine
end

