-- ==== Sys2Proof/Laws/Operands.lean ====
section
/-! SUPPORT. Narrowing to a width, said once (R8). -/

namespace Sys2Proof.Machine

theorem truncTo_toNat (w v : Nat) : (truncTo w v).toNat = v % 2 ^ w % 2 ^ 16 := by
  simp [truncTo]

/-- A narrowed value fits its width. -/
theorem truncTo_le (w v : Nat) : (truncTo w v).toNat ≤ 2 ^ w - 1 := by
  rw [truncTo_toNat]
  have h1 := Nat.mod_lt v (Nat.two_pow_pos w)
  have h2 := Nat.mod_le (v % 2 ^ w) (2 ^ 16)
  omega

/-- A width of at most 16 loses nothing more in the 16-bit word. -/
theorem truncTo_toNat_of_le (w v : Nat) (h : w ≤ 16) : (truncTo w v).toNat = v % 2 ^ w := by
  rw [truncTo_toNat]
  apply Nat.mod_eq_of_lt
  exact (Nat.mod_lt v (Nat.two_pow_pos w)).trans_le (Nat.pow_le_pow_right (by decide) h)

/-- A value that fits is not changed. -/
theorem truncTo_of_lt (w v : Nat) (h : w ≤ 16) (hv : v < 2 ^ w) : (truncTo w v).toNat = v := by
  rw [truncTo_toNat_of_le w v h, Nat.mod_eq_of_lt hv]

end Sys2Proof.Machine
end

