-- ==== Sys2Proof/Laws/PerInstr.lean ====
section
/-! SUPPORT. Statements made for each instruction by itself. -/

namespace Sys2Proof.Laws

/-- A host transaction's word matches the row of the opcode map that has its mnemonic, and decodes to a transaction of
the same row. The EVENT rows have no word and no row in the map (R92, R94). -/
def EncodedRow.Statement (i : Instr) : Prop :=
  match encode i with
  | some w => (∃ r ∈ rows, r.mnemonic = i.mnemonic ∧ r.matchesWord w = true) ∧ (decode w).mnemonic = i.mnemonic
  | none => ∀ r ∈ rows, r.mnemonic ≠ i.mnemonic

/-- The row of a word of format HT. -/
theorem row_of_htWord (m : String) (b : Bool) (a : Three) (d : Word)
    (h : (⟨m, htWord b a 0, 0xF0000#20⟩ : Row) ∈ rows) :
    ∃ r ∈ rows, r.mnemonic = m ∧ r.matchesWord (htWord b a d) = true :=
  ⟨_, h, rfl, by simp [Row.matchesWord, htWord_and_mask]⟩

theorem EncodedRow.rdCtrl : EncodedRow.Statement .rdCtrl :=
  ⟨row_of_htWord _ false 0 0 (by simp [rows, htWord, Instr.mnemonic]), by simp [decode, Instr.mnemonic]⟩

theorem EncodedRow.wrCtrl (d : Word) : EncodedRow.Statement (.wrCtrl d) :=
  ⟨row_of_htWord _ true 0 d (by simp [rows, htWord, Instr.mnemonic]), by simp [decode, Instr.mnemonic]⟩

theorem EncodedRow.rdStatus : EncodedRow.Statement .rdStatus :=
  ⟨row_of_htWord _ false 1 0 (by simp [rows, htWord, Instr.mnemonic]), by simp [decode, Instr.mnemonic]⟩

theorem EncodedRow.wrStatus (d : Word) : EncodedRow.Statement (.wrStatus d) :=
  ⟨row_of_htWord _ true 1 d (by simp [rows, htWord, Instr.mnemonic]), by simp [decode, Instr.mnemonic]⟩

theorem EncodedRow.rdReload : EncodedRow.Statement .rdReload :=
  ⟨row_of_htWord _ false 2 0 (by simp [rows, htWord, Instr.mnemonic]), by simp [decode, Instr.mnemonic]⟩

theorem EncodedRow.wrReload (d : Word) : EncodedRow.Statement (.wrReload d) :=
  ⟨row_of_htWord _ true 2 d (by simp [rows, htWord, Instr.mnemonic]), by simp [decode, Instr.mnemonic]⟩

theorem EncodedRow.rdCount : EncodedRow.Statement .rdCount :=
  ⟨row_of_htWord _ false 3 0 (by simp [rows, htWord, Instr.mnemonic]), by simp [decode, Instr.mnemonic]⟩

theorem EncodedRow.wrCount (d : Word) : EncodedRow.Statement (.wrCount d) :=
  ⟨row_of_htWord _ true 3 d (by simp [rows, htWord, Instr.mnemonic]), by simp [decode, Instr.mnemonic]⟩

theorem EncodedRow.rdOut : EncodedRow.Statement .rdOut :=
  ⟨row_of_htWord _ false 4 0 (by simp [rows, htWord, Instr.mnemonic]), by simp [decode, Instr.mnemonic]⟩

theorem EncodedRow.wrOut (d : Word) : EncodedRow.Statement (.wrOut d) :=
  ⟨row_of_htWord _ true 4 d (by simp [rows, htWord, Instr.mnemonic]), by simp [decode, Instr.mnemonic]⟩

theorem EncodedRow.rdExpcmd : EncodedRow.Statement .rdExpcmd :=
  ⟨row_of_htWord _ false 5 0 (by simp [rows, htWord, Instr.mnemonic]), by simp [decode, Instr.mnemonic]⟩

theorem EncodedRow.wrExpcmd (d : Word) : EncodedRow.Statement (.wrExpcmd d) :=
  ⟨row_of_htWord _ true 5 d (by simp [rows, htWord, Instr.mnemonic]), by simp [decode, Instr.mnemonic]⟩

theorem EncodedRow.rdCfg : EncodedRow.Statement .rdCfg :=
  ⟨row_of_htWord _ false 6 0 (by simp [rows, htWord, Instr.mnemonic]), by simp [decode, Instr.mnemonic]⟩

theorem EncodedRow.wrCfg (d : Word) : EncodedRow.Statement (.wrCfg d) :=
  ⟨row_of_htWord _ true 6 d (by simp [rows, htWord, Instr.mnemonic]), by simp [decode, Instr.mnemonic]⟩

theorem EncodedRow.rdRsv7 : EncodedRow.Statement .rdRsv7 :=
  ⟨row_of_htWord _ false 7 0 (by simp [rows, htWord, Instr.mnemonic]), by simp [decode, Instr.mnemonic]⟩

theorem EncodedRow.wrRsv7 (d : Word) : EncodedRow.Statement (.wrRsv7 d) :=
  ⟨row_of_htWord _ true 7 d (by simp [rows, htWord, Instr.mnemonic]), by simp [decode, Instr.mnemonic]⟩

theorem EncodedRow.tce : EncodedRow.Statement .tce := by
  simp [EncodedRow.Statement, encode, rows, Instr.mnemonic]

theorem EncodedRow.seqT1 : EncodedRow.Statement .seqT1 := by
  simp [EncodedRow.Statement, encode, rows, Instr.mnemonic]

theorem EncodedRow.seqT2 : EncodedRow.Statement .seqT2 := by
  simp [EncodedRow.Statement, encode, rows, Instr.mnemonic]

theorem EncodedRow.adcDone (v : Word) : EncodedRow.Statement (.adcDone v) := by
  simp [EncodedRow.Statement, encode, rows, Instr.mnemonic]

theorem EncodedRow.seqT4 : EncodedRow.Statement .seqT4 := by
  simp [EncodedRow.Statement, encode, rows, Instr.mnemonic]

theorem EncodedRow.adcTimeout : EncodedRow.Statement .adcTimeout := by
  simp [EncodedRow.Statement, encode, rows, Instr.mnemonic]

theorem EncodedRow.spiDone : EncodedRow.Statement .spiDone := by
  simp [EncodedRow.Statement, encode, rows, Instr.mnemonic]

theorem EncodedRow.spiTimeout : EncodedRow.Statement .spiTimeout := by
  simp [EncodedRow.Statement, encode, rows, Instr.mnemonic]

theorem EncodedRow.reset : EncodedRow.Statement .reset := by
  simp [EncodedRow.Statement, encode, rows, Instr.mnemonic]

end Sys2Proof.Laws
end

