-- ==== Sys2Proof/Laws/Runs.lean ====
section
/-! SUPPORT. Lists of steps and traces, one after another. -/

namespace Sys2Proof.Machine

/-- The first step, and then the rest. -/
theorem execAll_cons {i : Instr} {is : List Instr} {s t : State} (h : exec i s = .next t) :
    execAll (i :: is) s = execAll is t := by
  simp [execAll, h]

/-- A list of steps, and then another. -/
theorem execAll_append {is js : List Instr} {s t : State} (h : execAll is s = .next t) :
    execAll (is ++ js) s = execAll js t := by
  induction is generalizing s with
  | nil => cases h; rfl
  | cons i is ih =>
    simp only [List.cons_append, execAll] at h ⊢
    cases hi : exec i s with
    | next u => rw [hi] at h; exact ih h
    | fault r => rw [hi] at h; cases h
    | refused r => rw [hi] at h; cases h

/-- The tick phase of a longer trace starts where the shorter one ended. -/
theorem tickPhase_append {l m : List TraceEvent} {p : TickPhase} (h : tickPhase l = some p) :
    tickPhase (l ++ m) = m.foldlM tickNext p := by
  unfold tickPhase at *
  rw [List.foldlM_append, h]; rfl

/-- The frame phase of a longer trace starts where the shorter one ended. -/
theorem framePhase_append {b : Byte} {l m : List TraceEvent} {p : FramePhase} (h : framePhase b l = some p) :
    framePhase b (l ++ m) = m.foldlM (frameNext b) p := by
  unfold framePhase at *
  rw [List.foldlM_append, h]; rfl

end Sys2Proof.Machine
end

