-- ==== Sys2Proof/Laws/Step.lean ====
section
/-! SUPPORT. Everything `step` can do, said once: it is a step of `exec`, a CLK edge, or a further cycle of RST. -/

namespace Sys2Proof.Machine

/-- An answer of `step`: the three actions, with what each says about RST. -/
theorem step_cases {s t : State} (h : step s = .next t) :
    s.params.legal = true ∧
    ((∃ i, exec i s.takeTurn = .next t ∧ (i ≠ .reset → s.takeTurn.rstHeld = false) ∧
        (i = .reset → s.takeTurn.rstHeld = true ∧ s.nextTurn = .event .reset)) ∨
      (s.nextTurn = .clk ∧ t = clockEdge s.takeTurn ∧ s.takeTurn.rstHeld = false) ∨
      (s.nextTurn = .event .reset ∧ s.rstHeld = true ∧ t = s.takeTurn.resetElements)) := by
  unfold step at h
  split at h
  · next hl =>
    refine ⟨hl, ?_⟩
    unfold State.action at h
    cases hn : s.nextTurn with
    | host w =>
      simp only [hn] at h
      exact .inl ⟨_, h, fun _ => by simp [hn, rstAfter], fun he => (decode_ne_reset w he).elim⟩
    | event e =>
      simp only [hn] at h
      split at h
      · next x he =>
        split at he
        · cases he
        · cases he; exact .inl ⟨_, h, by cases e <;> simp [hn, rstAfter, Event.instr],
            by cases e <;> simp [hn, rstAfter, Event.instr]⟩
      · next he => split at he <;> cases he
      · next he =>
        split at he
        · next hc => simp at hc; cases h; simp [hc]
        · cases he
    | clk => simp only [hn] at h; cases h; simp [hn, rstAfter]
  · cases h

end Sys2Proof.Machine
end

