-- ==== Sys2Proof/Tests/Slice0.lean ====
section
/-! SUPPORT. Tests with the values of spec/95_test_vectors.md, the smoke tests of WellFormed, and for every statement
with hypotheses a witness that meets them. -/

namespace Sys2Proof.Tests

open Sys2Proof Sys2Proof.Machine

/-- The state of an answer. -/
def stateOf : Out → State
  | .next t => t
  | .fault _ | .refused _ => State.reset

/-- The state after one step. -/
def after (i : Instr) (s : State) : State := stateOf (exec i s)

/-- STATUS as a read answers it. -/
def statusOf (s : State) : Option Word := (after .rdStatus s).rdata

/-- The reset state configured with a nibble. -/
def configuredWith (n : Nibble) : State := configure { State.reset with cfgDraws := [n] }

/-- A tick in progress, as in T5v to T9v: CFG_IN = 2, RELOAD = 3. -/
def tickAt (q : SeqState) : State :=
  { configuredWith 2 with arm := true, reload := 3, count := 3, pending := true, seq := q, tick := q != .idle }

/-- A frame in flight with the latch 0x1255, as in X1. -/
def frameAt (e : ExpState) : State :=
  { State.reset with exp := e, expAddr := 0x12, expData := 0x55, csN := false }

/-- Both waits bounded. -/
def boundedBy (n : Nat) : Params :=
  { Params.reference with adcTimeout := .bounded n, spiTimeout := .bounded n }

/-! ## WellFormed -/

theorem test_wellFormed_reference : Params.reference.legal = true := by decide

theorem test_illFormed_sample_width :
    ({ Params.reference with wS := 0 } : Params).legal = false ∧
    ({ Params.reference with wS := 17 } : Params).legal = false := by decide

theorem test_illFormed_latch_width :
    ({ Params.reference with wOut := 0 } : Params).legal = false ∧
    ({ Params.reference with wOut := 17 } : Params).legal = false := by decide

theorem test_illFormed_timer_width :
    ({ Params.reference with wTmr := 0 } : Params).legal = false ∧
    ({ Params.reference with wTmr := 17 } : Params).legal = false := by decide

theorem test_illFormed_timeouts :
    ({ Params.reference with adcTimeout := .bounded 0 } : Params).legal = false ∧
    ({ Params.reference with spiTimeout := .bounded 0 } : Params).legal = false := by decide

theorem test_illFormed_sample :
    (Instr.adcDone 0x1000).wellFormed Params.reference = false ∧
    (Instr.adcDone 0x0FFF).wellFormed Params.reference = true := by decide

/-! ## Decoding: the words of section 2.1, bit by bit -/

theorem test_decode_reads :
    decode 0b00000000000000000000#20 = .rdCtrl ∧ decode 0b00010000000000000000#20 = .rdStatus ∧
    decode 0b00100000000000000000#20 = .rdReload ∧ decode 0b00110000000000000000#20 = .rdCount ∧
    decode 0b01000000000000000000#20 = .rdOut ∧ decode 0b01010000000000000000#20 = .rdExpcmd ∧
    decode 0b01100000000000000000#20 = .rdCfg ∧ decode 0b01110000000000000000#20 = .rdRsv7 := by decide

theorem test_decode_writes :
    decode 0b10000000000000000011#20 = .wrCtrl 3 ∧ decode 0b10011111111111111111#20 = .wrStatus 0xFFFF ∧
    decode 0b10100000000001100100#20 = .wrReload 100 ∧ decode 0b10110000000000000101#20 = .wrCount 5 ∧
    decode 0b11000000000000000111#20 = .wrOut 7 ∧ decode 0b11010001001001010101#20 = .wrExpcmd 0x1255 ∧
    decode 0b11100000000000000011#20 = .wrCfg 3 ∧ decode 0b11111111111111111111#20 = .wrRsv7 0xFFFF := by decide

theorem test_decode_ignores_d_of_a_read : decode 0x1ABCD#20 = .rdStatus := by decide

theorem test_encode :
    encode .rdStatus = some 0x10000#20 ∧ encode (.wrExpcmd 0x1255) = some 0xD1255#20 ∧ encode .tce = none := by decide

theorem test_decodeTableWord :
    decodeTableWord 24 0xA0064 = some (.wrReload 100) ∧ decodeTableWord 24 0x100000 = none := by decide

theorem test_step_runs_placed_word :
    stateOf (step (State.reset.withFetchWord 24 0xA0064)) = { State.reset with reload := 100 } := by decide

/-! ## Host transactions (section 2.2) -/

theorem test_rdCtrl : (after .rdCtrl (tickAt .idle)).rdata = some 0x0001#16 := by decide
theorem test_rdStatus_frame : statusOf (frameAt .b0) = some 0x0400#16 := by decide
theorem test_rdStatus_tick : statusOf (tickAt .sampling) = some 0x0333#16 := by decide
theorem test_rdReload : (after .rdReload { State.reset with reload := 0x1234 }).rdata = some 0x1234#16 := by decide
theorem test_rdCount : (after .rdCount { State.reset with count := 0x64 }).rdata = some 0x0064#16 := by decide
theorem test_rdOut : (after .rdOut { State.reset with outLatch := 0x14 }).rdata = some 0x0014#16 := by decide
theorem test_rdExpcmd : (after .rdExpcmd (frameAt .b0)).rdata = some 0x1255#16 := by decide
theorem test_rdCfg : (after .rdCfg (configuredWith 9)).rdata = some 0x0009#16 := by decide
theorem test_rdRsv7 : (after .rdRsv7 (tickAt .done)).rdata = some 0x0000#16 := by decide

/-- H4. -/
theorem test_wrCtrl_arm_refused : statusOf (after (.wrCtrl 1) State.reset) = some 0x4000#16 := by decide

/-- H5. -/
theorem test_wrCtrl_configures_and_arms :
    let t := after (.wrCtrl 3) { State.reset with reload := 100, cfgDraws := [2] }
    statusOf t = some 0x0013#16 ∧ t.arm = true ∧ t.count = 100 := by decide

/-- H11. -/
theorem test_wrStatus : after (.wrStatus 0xFFFF) { State.reset with errOvr := true } =
    { State.reset with errOvr := true } := by decide

/-- H3. -/
theorem test_wrReload :
    (after (.wrReload 0x1FF) (State.resetWith { Params.reference with wTmr := 8 })).reload = 0x00FF := by decide

/-- H12. -/
theorem test_wrCount : after (.wrCount 5) (tickAt .done) = tickAt .done := by decide
theorem test_wrOut : after (.wrOut 7) (tickAt .done) = tickAt .done := by decide
theorem test_wrCfg : after (.wrCfg 3) (tickAt .done) = tickAt .done := by decide
theorem test_wrRsv7 : after (.wrRsv7 0xFFFF) (tickAt .done) = tickAt .done := by decide

/-- X1 and X9, the first step. -/
theorem test_wrExpcmd_starts :
    let t := after (.wrExpcmd 0x13FF) (State.resetWith { Params.reference with writeOpcode := 0x4E })
    t.trace = [.csAssert, .tx 0x4E] ∧ t.exp = .b0 ∧ t.expAddr = 0x13 ∧ t.expData = 0xFF ∧ t.csN = false := by decide

/-- X3. -/
theorem test_wrExpcmd_busy : after (.wrExpcmd 0) (frameAt .b1) = { frameAt .b1 with errProto := true } := by decide

/-! ## Sampler and filter (sections 2.3 and 2.4) -/

/-- T1v. -/
theorem test_tce_expires :
    let t := after .tce { State.reset with arm := true, count := 1 }
    t.count = 0 ∧ t.pending = true ∧ t.errOvr = false := by decide

/-- T3v. -/
theorem test_tce_holds_at_zero :
    after .tce { State.reset with arm := true } = { State.reset with arm := true } := by decide

/-- T6v. -/
theorem test_seqT1 :
    let t := after .seqT1 { tickAt .idle with count := 0 }
    t.count = 3 ∧ statusOf t = some 0x0333#16 ∧ t.trace = [.tickRise] := by decide

/-- T7v. -/
theorem test_seqT2 :
    let t := after .seqT2 (tickAt .sampling)
    statusOf t = some 0x0353#16 ∧ t.trace = [.adcStart] ∧ t.adcStart = true := by decide

/-- T8v. -/
theorem test_adcDone :
    let t := after (.adcDone 40) (tickAt .converting)
    t.outLatch = 10 ∧ statusOf t = some 0x0373#16 ∧ t.trace = [.outWrite 10] := by decide

/-- U14. -/
theorem test_adcDone_truncates_out :
    let s := { tickAt .converting with
      params := { Params.reference with wOut := 8 }, depth := 2, hist := Vector.replicate 5 0 }
    (after (.adcDone 0x246) s).trace = [.outWrite 0x23] ∧ (after (.adcDone 0x246) s).outLatch = 0x23 := by decide

/-- T9v. -/
theorem test_seqT4 :
    let t := after .seqT4 (tickAt .done)
    statusOf t = some 0x0013#16 ∧ t.count = 3 ∧ t.trace = [.tickFall] := by decide

/-- T16v. -/
theorem test_adcTimeout :
    let t := after .adcTimeout { tickAt .converting with params := boundedBy 2 }
    statusOf t = some 0x1393#16 ∧ t.tick = true ∧ t.trace = [] := by decide

/-- The configure vectors of section 2.3. -/
theorem test_configure :
    [0, 1, 2, 3].map (fun n => statusOf (configuredWith n)) =
      [some 0x000B#16, some 0x000F#16, some 0x0013#16, some 0x0017#16] ∧
    [4, 5, 6, 7, 8, 9, 10, 11, 12, 13, 14, 15].map (fun n => statusOf (configuredWith n)) =
      List.replicate 12 (some 0x0001#16) := by decide

/-- U13 and S1. -/
theorem test_filter_wraps :
    let r := updateAll (configuredWith 1) [10, 20, 30, 40]
    r.2 = [3, 10, 20, 30] ∧ r.1.hist.toList.take 3 = [40, 20, 30] ∧ r.1.wp = 1 := by decide

/-- U8. -/
theorem test_filter_maximum :
    (updateAll (configuredWith 3) (List.replicate 6 4095)).2 = [819, 1638, 2457, 3276, 4095, 4095] := by decide

/-- U11. -/
theorem test_filter_inactive : update (configuredWith 9) 1234 = (configuredWith 9, 0) := by decide

/-! ## Frame engine and reset (sections 2.5 and 2.6) -/

/-- X1, the last step. -/
theorem test_spiDone_ends_frame :
    let t := after .spiDone (frameAt .b2)
    t.trace = [.csDeassert] ∧ t.exp = .idle ∧ t.csN = true := by decide

/-- X1, the second step. -/
theorem test_spiDone_sends_address :
    let t := after .spiDone (frameAt .b0)
    t.trace = [.tx 0x12] ∧ t.exp = .b1 := by decide

/-- X5. -/
theorem test_spiTimeout :
    let t := after .spiTimeout { frameAt .b1 with params := boundedBy 2 }
    t.trace = [.csDeassert] ∧ t.exp = .fault ∧ statusOf t = some 0x2000#16 := by decide

/-- E2. -/
theorem test_reset_cuts_frame : after .reset (frameAt .b2) = { State.reset with trace := [.csDeassert, .reset] } := by
  decide

/-- E6. -/
theorem test_reset_leaves_faults :
    let t := after .reset { tickAt .fault with exp := .fault, errAdcTo := true, errSpiTo := true }
    t.seq = .idle ∧ t.exp = .idle ∧ statusOf t = some 0x0000#16 := by decide

/-- T14v and X4. -/
theorem test_same_cycle :
    resolveCycle [.event .tce, .event .seqT4] = [.event .seqT4, .event .tce] ∧
    resolveCycle [.event .spiDone, .host 0xD1301#20] = [.host 0xD1301#20, .event .spiDone] := by decide

/-- Both waits reach their bounds at one CLK edge: two steps of TIMEOUT, one after the other. -/
theorem test_clk_lists_timeouts :
    let t := stateOf (step { tickAt .converting with
      params := boundedBy 2, exp := .b0, adcWait := 1, spiWait := 1, sched := [.clk, .event .tce] })
    t.sched = [.event .adcTimeout, .event .spiTimeout, .event .tce] ∧ t.seq = .converting ∧ t.exp = .b0 := by decide

/-- Below the bound of 2 a wait only counts. -/
theorem test_clk_counts :
    let t := stateOf (step { tickAt .converting with params := boundedBy 2, sched := [.clk] })
    t.sched = [] ∧ t.adcWait = 1 ∧ t.spiWait = 0 := by decide

/-! ## Assembler (section 2.1) -/

theorem test_assemble_read :
    assembleLine ['R', 'D', ' ', 'C', 'T', 'R', 'L'] = .ok (some 0x00000#20) := by decide

theorem test_assemble_write :
    assembleLine ['W', 'R', ' ', 'E', 'X', 'P', 'C', 'M', 'D', ',', ' ', '0', 'x', '1', '2', '5', '5'] =
      .ok (some 0xD1255#20) := by decide

theorem test_assemble_refuses :
    assembleLine ['W', 'R', ' ', 'R', 'E', 'L', 'O', 'A', 'D', ',', ' ', '0', 'x', '1', '0', '0', '0', '0'] =
      .error .immediateOutOfRange := by decide

theorem test_assemble_pseudo :
    lineOps .example26 ['C', 'F', 'G', 'A', 'R', 'M'] = .ok [.stmt (.wr .ctrl 3)] := by decide

theorem test_hexText : hexText 0xD1255#20 = ['0', 'x', 'D', '1', '2', '5', '5'] := by decide

/-- P6: 30 frames, and the period and the arm last. -/
theorem test_boot :
    ((bootProgram .example26 1000).filter fun op => match op with
      | .stmt (.wr .expcmd _) => true
      | _ => false).length = 30 ∧
    (bootProgram .example26 1000).reverse.take 2 = [.stmt (.wr .ctrl 1), .stmt (.wr .reload 1000)] := by decide

/-! ## Witnesses: what meets the hypotheses of each statement, clause by clause -/

/-- A tick and a frame in progress meet the invariants, under bounded waits. -/
def busyState (q : SeqState) (e : ExpState) : State :=
  { tickAt q with
    params := boundedBy 2, exp := e, expAddr := 0x12, expData := 0x55, csN := false, outLatch := 0x0FFF
    trace := [.tickRise, .adcStart, .csAssert, .tx 0x40] }

/-- The reset state configured with a nibble below 4, written out. -/
theorem configuredWith_active :
    configuredWith 1#4 = { State.reset with cfgNib := 1, fmode := .active, depth := 3 } ∧
    configuredWith 2#4 = { State.reset with cfgNib := 2, fmode := .active, depth := 4 } := by decide

theorem busyState_inv : (busyState .converting .b0).Inv := by
  constructor <;>
    simp [busyState, tickAt, configuredWith_active, State.reset, State.resetWith, boundedBy, Params.reference,
      Params.legal, legalWidth, Timeout.legal]

theorem witness_DecodeInvertsEncode : encode (.wrRsv7 0xFFFF) = some 0xFFFFF#20 := by decide

theorem witness_ReadsIgnoreFieldD :
    wField 0x1ABCD#20 = false ∧ wField 0x10000#20 = false ∧ aField 0x1ABCD#20 = aField 0x10000#20 := by decide

theorem witness_StepRunsDecodedWord :
    let s := { State.reset with sched := [.host 0x80003#20, .clk] }
    s.params.legal = true ∧ s.sched = .host 0x80003#20 :: [.clk] := by decide

theorem witness_StepRunsAgentEvent :
    (let s := { State.reset with sched := [.event .tce] }
     s.params.legal = true ∧ s.sched = .event .tce :: [] ∧ Event.tce ≠ .reset) ∧
    (let s := { State.reset with sched := [.event .reset] }
     s.params.legal = true ∧ s.sched = .event .reset :: [] ∧ s.rstHeld = false) := by decide

theorem witness_HeldResetEmitsNothing :
    let s := { frameAt .b2 with sched := [.event .reset, .event .reset, .clk] }
    s.params.legal = true ∧ s.rstHeld = false ∧ s.sched = .event .reset :: .event .reset :: [.clk] := by decide

theorem witness_HeldResetEmitsNothing_offer :
    let s := { State.reset with rstHeld := true }
    s.rstHeld = true ∧ .event .reset ∈ [Turn.host 0xD1200#20, .event .reset] ∧
      .event .reset ∉ [Turn.host 0xD1200#20] := by decide

theorem witness_ClockTurnCountsWaits :
    (let s := { busyState .converting .b0 with sched := [.clk], adcWait := 0, spiWait := 1 }
     s.params.legal = true ∧ s.sched = .clk :: [] ∧ s.params.adcTimeout = .bounded 2 ∧ s.seq = .converting ∧
       s.params.spiTimeout = .bounded 2 ∧ s.exp.busy = true) ∧
    (let s := { tickAt .converting with sched := [.clk] }
     s.params.legal = true ∧ s.sched = .clk :: [] ∧ s.params.adcTimeout = .unbounded ∧
       s.params.spiTimeout = .unbounded ∧ s.exp.busy = false) := by decide

theorem witness_NoStepStopsTheBlock : State.reset.params.legal = true := by decide

theorem witness_StepNotEnabledChangesNothing :
    (let s := { tickAt .idle with arm := false }
     ¬ (s.seq = .idle ∧ s.arm = true ∧ s.pending = true)) ∧
    (tickAt .done).seq ≠ .sampling ∧ (tickAt .sampling).seq ≠ .done ∧
    (tickAt .converting).params.adcTimeout = .unbounded ∧ (busyState .done .b0).seq ≠ .converting ∧
    (frameAt .b0).params.spiTimeout = .unbounded ∧ (busyState .done .fault).exp = .fault := by decide

/-- Both orders of the trace hold at `busyState`, and a step is taken there. -/
theorem witness_StepKeepsInvariants :
    let s := { busyState .converting .b0 with sched := [.event (.adcDone 40)] }
    s.Inv ∧ ∃ t, step s = .next t :=
  ⟨{ busyState_inv with heldAtReset := by decide +kernel }, _, rfl⟩

theorem witness_StepKeepsTickOrder :
    let s := { busyState .converting .b0 with sched := [.event (.adcDone 40)] }
    tickPhase s.trace = some s.seq.phase := by decide

theorem witness_StepKeepsFrameOrder :
    let s := { busyState .converting .b0 with sched := [.event (.adcDone 40)] }
    framePhase s.params.writeOpcode s.trace = some (.sent [0x40]) ∧ frameAgrees s (.sent [0x40]) = true := by decide

theorem witness_ResetStateMeetsInvariants : (boundedBy 1).legal = true := by decide

theorem witness_ResetStateHasTheTablesValues :
    exec .reset (busyState .fault .fault) = .next (after .reset (busyState .fault .fault)) ∧
    State.reset = State.resetWith Params.reference := ⟨rfl, rfl⟩

theorem witness_ParametersNeverChange : exec .tce State.reset = .next (after .tce State.reset) := rfl

theorem witness_PendingFollowsTick :
    let s := busyState .converting .b0
    s.Inv ∧ s.seq ≠ .fault ∧ ¬ (s.seq = .idle ∧ s.pending = true) := ⟨busyState_inv, by decide⟩

/-- Every pattern of `DecodesAs` is met, with any field D: here 0xABCD. -/
theorem witness_DecodesAs :
    (List.range 16).all (fun k =>
      (BitVec.ofNat 20 (0x10000 * k + 0xABCD) &&& 0xF0000#20) == BitVec.ofNat 20 (0x10000 * k)) = true := by decide

theorem witness_RdCtrlAnswersArm : State.reset.fmode = .uncfg ∧ State.reset.arm = false := by decide

theorem witness_RdReloadAndRdCountAnswerTimer :
    (busyState .converting .b0).Inv ∧ (busyState .converting .b0).params.wTmr ≤ 16 := ⟨busyState_inv, by decide⟩

theorem witness_RdOutAnswersLatch :
    (busyState .converting .b0).Inv ∧ (busyState .converting .b0).params.wOut ≤ 12 := ⟨busyState_inv, by decide⟩

theorem witness_ReadsHaveNoSideEffect : wField 0x1ABCD#20 = false := by decide

theorem witness_WrCountAndWrOutChangeNothing :
    (let s := { configuredWith 2 with reload := 3 }
     (stateOf (exec (decode 0x80001#20) s)).count ≠ s.count) ∧
    (let s := { tickAt .idle with count := 1 }
     (after .tce s).count ≠ s.count ∧ (after .seqT1 s).count ≠ s.count ∧ (after .reset s).count ≠ s.count) ∧
    (after (.adcDone 40) (tickAt .converting)).outLatch ≠ (tickAt .converting).outLatch := by decide

theorem witness_WrCtrlConfiguresThenArms :
    State.reset.fmode = .uncfg ∧ (0x0002#16).getLsbD 1 = true ∧ (0x0003#16).getLsbD 1 = true ∧
    ({ State.reset with cfgDraws := [3, 4] } : State).cfgDraws = 3 :: [4] ∧ State.reset.cfgDraws = [] := by decide

theorem witness_WrCtrlOnConfiguredBlock : (configuredWith 9).fmode ≠ .uncfg := by decide

theorem witness_WrCtrlOnUnconfiguredBlock : State.reset.fmode = .uncfg ∧ (0xFFFD#16).getLsbD 1 = false := by decide

theorem witness_ConfigurationIsTakenOnce :
    (configuredWith 2).fmode ≠ .uncfg ∧ Instr.wrCtrl 2 ≠ .reset ∧ (0x0002#16).getLsbD 1 = true := by decide

theorem witness_LatestReloadWins :
    (∀ i ∈ [Instr.tce, .seqT1, .wrCtrl 1], i ≠ .reset ∧ ∀ d, i ≠ .wrReload d) ∧
    (tickAt .idle).seq = .idle ∧ (tickAt .idle).arm = true ∧ (tickAt .idle).pending = true ∧
    (configuredWith 2).fmode ≠ .uncfg ∧ (configuredWith 2).arm = false ∧ (0x0001#16).getLsbD 0 = true :=
  ⟨by simp, by decide⟩

theorem witness_WrExpcmdStartsFrame :
    State.reset.exp = .idle ∧ (frameAt .b0).exp = .b0 ∧ (frameAt .b2).exp = .b2 ∧ (frameAt .fault).exp = .fault := by
  decide

theorem witness_SpiDoneAdvancesFrame :
    (frameAt .b0).exp = .b0 ∧ (frameAt .b1).exp = .b1 ∧ (frameAt .b2).exp = .b2 ∧ State.reset.exp = .idle := by decide

theorem witness_SpiTimeoutAbandonsFrame :
    (busyState .done .b0).params.spiTimeout = .bounded 2 ∧ (busyState .done .b0).exp = .b0 ∧
    (busyState .done .b2).exp = .b2 := by decide

theorem witness_AcceptedWriteGivesWholeFrame :
    let is : List Instr := [.spiDone, .tce, .wrExpcmd 0, .spiDone]
    State.reset.exp = .idle ∧ (∀ i ∈ is, i ≠ .reset ∧ i ≠ .spiTimeout) ∧ is.count .spiDone = 2 ∧
      (stateOf (execAll (.wrExpcmd 0x1255 :: (is ++ [.spiDone])) State.reset)).exp = .idle := by decide

theorem witness_TceCountsDownAndExpires :
    (let s := { tickAt .idle with count := 2 }
     s.arm = true ∧ 1 < s.count.toNat) ∧
    (let s := { tickAt .idle with count := 1 }
     s.arm = true ∧ s.count.toNat = 1) ∧
    (let s := { tickAt .idle with count := 0 }
     s.count.toNat = 0) := by decide

theorem witness_SeqT1BeginsTick :
    (tickAt .idle).seq = .idle ∧ (tickAt .idle).arm = true ∧ (tickAt .idle).pending = true := by decide

theorem witness_SeqT2StartsConversion : (busyState .sampling .idle).seq = .sampling := by decide

theorem witness_AdcDoneFiltersAndLatches :
    (let s := tickAt .converting
     s.seq = .converting ∧ s.fmode = .active ∧ s.wp.toNat < s.depth.toNat ∧ s.depth.toNat ≤ 5) ∧
    (let s := { configuredWith 9 with seq := .converting }
     s.seq = .converting ∧ s.fmode ≠ .active) ∧ State.reset.seq ≠ .converting := by decide

theorem witness_SeqT4EndsTick : (tickAt .done).seq = .done := by decide

theorem witness_AdcTimeoutEntersFault :
    (busyState .converting .b0).params.adcTimeout = .bounded 2 ∧ (busyState .converting .b0).seq = .converting := by
  decide

theorem witness_TicksDoNotNest :
    ((tickAt .idle).seq ≠ .sampling ∧ (after .seqT1 (tickAt .idle)).seq = .sampling) ∧
    ((tickAt .done).seq ≠ .idle ∧ (after .seqT4 (tickAt .done)).seq = .idle) := by decide

theorem witness_ReloadZeroNeverTicks :
    (let s := configuredWith 2
     let is : List Instr := [.wrCtrl 1, .tce, .seqT1]
     s.reload = 0 ∧ s.count = 0 ∧ s.pending = false ∧ s.seq = .idle ∧ (∀ i ∈ is, ∀ d, i ≠ .wrReload d)) ∧
    (let s := { configuredWith 2 with reload := 1 }
     s.fmode ≠ .uncfg ∧ s.arm = false ∧ s.reload = 1) := by
  refine ⟨⟨by decide, by decide, by decide, by decide, ?_⟩, by decide⟩
  simp

theorem witness_EveryPeriodLatchesTheAverage :
    let s := { configuredWith 1 with arm := true, reload := 1, count := 1 }
    s.Inv ∧ s.fmode = .active ∧ s.hist = Vector.replicate 5 0 ∧ s.seq = .idle ∧ s.arm = true ∧ s.pending = false ∧
      s.reload ≠ 0 ∧ s.count = s.reload ∧ (∀ x ∈ [10#16, 0x0FFF#16], x.toNat < 2 ^ s.params.wS) := by
  refine ⟨?_, by decide, by decide, by decide, by decide, by decide, by decide, by decide, by simp [State.reset, State.resetWith, Params.reference, configuredWith_active]⟩
  constructor <;>
    simp [configuredWith_active, State.reset, State.resetWith, Params.reference, Params.legal, legalWidth, Timeout.legal]

theorem witness_FilterReturnsClosedForm :
    let s := { State.reset with cfgDraws := [0] }
    let t := { State.reset with cfgDraws := [3] }
    s.fmode = .uncfg ∧ s.cfgIn.toNat < 4 ∧ t.fmode = .uncfg ∧ t.cfgIn.toNat < 4 := by decide

theorem witness_CircularBufferRefinesShiftRegister :
    let s := (updateAll (configuredWith 1) [10, 20, 30, 40]).1
    let history : List Word := [40, 30, 20]
    s.fmode = .active ∧ 2 ≤ s.depth.toNat ∧ s.depth.toNat ≤ 5 ∧ s.wp.toNat < s.depth.toNat ∧
      history.length = s.depth.toNat ∧
      (∀ k, (h : k < 5) → k < s.depth.toNat →
        history[(s.wp.toNat + s.depth.toNat - 1 - k) % s.depth.toNat]? = some s.hist[k]) := by decide

theorem witness_FilterValueFitsLatch :
    let s := busyState .converting .b0
    s.Inv ∧ (0x0FFF#16).toNat ≤ 2 ^ s.params.wS - 1 ∧ s.params.wS ≤ s.params.wOut := ⟨busyState_inv, by decide⟩

theorem witness_NibbleSelectsDepth : 0x4#4 ≤ 0x4#4 ∧ 0x4#4 ≤ 0xF#4 := by decide

theorem witness_ErrorBitsAreSticky :
    (let s := { frameAt .b0 with errOvr := true, sched := [.host 0x9FFFF#20] }
     Instr.wrStatus 0xFFFF ≠ .reset ∧ s.nextTurn ≠ .event .reset ∧ s.errOvr = true ∧
       (stateOf (step s)).errOvr = true) := by decide

theorem witness_OnlyTheListedCausesRaise_step :
    let s := { busyState .converting .b0 with sched := [.event .adcTimeout] }
    newErrors s (stateOf (step s)) = [false, true, false, false] := by decide

theorem witness_OnlyTheListedCausesRaise :
    (let s := { tickAt .idle with count := 1 }
     s.errOvr = false ∧ (after .tce s).errOvr = true) ∧
    (let s := busyState .converting .b0
     s.errAdcTo = false ∧ (after .adcTimeout s).errAdcTo = true ∧
       s.errSpiTo = false ∧ (after .spiTimeout s).errSpiTo = true ∧
       s.errProto = false ∧ (after (.wrExpcmd 0) s).errProto = true ∧ (after (.wrCtrl 2) s).errProto = true) ∧
    (State.reset.errProto = false ∧ (after (.wrCtrl 1) State.reset).errProto = true) := by decide

theorem witness_ErrProtoMarksBrokenDuty :
    keepsDuty (frameAt .b0) (decode 0xD1255#20) = false ∧ keepsDuty State.reset (decode 0xD1255#20) = true ∧
    keepsDuty State.reset (decode 0x80001#20) = false ∧ keepsDuty (tickAt .idle) (decode 0x80003#20) = false := by decide

theorem witness_FaultStatesAreTerminal :
    let s := { tickAt .fault with exp := .fault, count := 1 }
    Instr.tce ≠ .reset ∧ s.seq = .fault ∧ s.exp = .fault ∧ s.pending = true := by decide

theorem witness_SampAndSpixAreIndependent :
    let s := tickAt .converting
    stateOf (execAll [.adcDone 40, .wrExpcmd 0x1200] s) ≠ stateOf (execAll [.wrExpcmd 0x1200, .adcDone 40] s) ∧
    (stateOf (execAll [.adcDone 40, .wrExpcmd 0x1200] s)).exp = .b0 := by decide

theorem witness_ElementsChangeOnlyByTheirWriters :
    (after (.adcDone 40) (tickAt .converting)).hist ≠ (tickAt .converting).hist ∧
    (after (.wrReload 7) State.reset).reload ≠ State.reset.reload ∧
    (let s := { tickAt .idle with count := 1, pending := false }
     (after .tce s).pending = true) ∧
    (tickAt .done).pending = true ∧ (after .seqT4 (tickAt .done)).pending = false ∧
    (after (.wrExpcmd 1) State.reset).expData ≠ State.reset.expData ∧
    (after (.wrCtrl 0) (tickAt .idle)).arm ≠ (tickAt .idle).arm := by decide

theorem witness_SameCycleOrder :
    (let s := { tickAt .done with count := 1 }
     s.seq = .done ∧ s.arm = true ∧ s.count = 1 ∧ s.pending = true ∧ s.errOvr = false ∧
      (stateOf (execAll [.seqT4, .tce] s)).tickDue = true) ∧
    (let s := { tickAt .idle with count := 1 }
     s.seq = .idle ∧ s.arm = true ∧ s.pending = true ∧ (stateOf (execAll [.tce, .seqT1] s)).count = 3 ∧
      (stateOf (execAll [.seqT1, .wrReload 9] s)).count = 3 ∧ (0x0000#16).getLsbD 0 = false ∧
      (stateOf (execAll [.seqT1, .wrCtrl 0] s)).seq = .sampling) ∧
    (let s := { configuredWith 9 with reload := 3 }
     s.fmode ≠ .uncfg ∧ s.arm = false ∧ (0x0001#16).getLsbD 0 = true ∧
      (stateOf (execAll [.wrCtrl 1, .wrReload 9] s)).count = 3) ∧
    (frameAt .b2).exp = .b2 ∧ (frameAt .b0).exp.busy = true ∧ (tickAt .converting).seq = .converting := by decide

/-- The turns of a fair run: the last step of a tick, then TCE pulses. -/
def fairTurns (n : Nat) : Turn := if n = 0 then .event .seqT4 else .event .tce

/-- The run under them, disarmed. -/
def fairRun (n : Nat) : State :=
  let s := { tickAt .done with arm := false }
  if n = 0 then s else after .seqT4 s

theorem witness_FairRunsEndEveryTick : FairRun fairTurns fairRun where
  runs := by
    intro n
    cases n <;> rfl
  seqSteps := by
    intro e n h
    cases n with
    | zero => cases e <;> first | exact ⟨0, Nat.le_refl 0, .inl rfl⟩ | cases h
    | succ n => exact ⟨n + 1, Nat.le_refl _, .inr (by cases e <;> rfl)⟩
  conversions := by
    intro n h
    cases n <;> cases h
  bytes := by
    intro n h
    cases n <;> cases h
  pulses := fun n => ⟨n + 1, Nat.le_succ n, rfl⟩

end Sys2Proof.Tests
end

section
/-! PROOFS. The step as a whole: what taking a turn does to the state and what `step` runs for it (O5, O6), the
parameter set (O9, O17), the invariants of R40 (O12), and the fair runs of R295 (O60). -/

namespace Sys2Proof.Machine

/-! ## Taking a turn -/

theorem nextTurn_of_sched {s : State} {x : Turn} {ts : List Turn} (h : s.sched = x :: ts) : s.nextTurn = x := by
  simp [State.nextTurn, h]

/-- A turn touches the turns to come, the answer, the pulses and RST, and nothing else (R21). -/
theorem takeTurn_eq (s : State) : s.takeTurn =
    { s with
      sched := s.takeTurn.sched
      drawn := s.takeTurn.drawn
      rdata := none
      adcStart := false
      spiTx := none
      rstHeld := rstAfter s.nextTurn } := by
  unfold State.takeTurn State.popTurn
  split <;> rfl

theorem takeTurn_of_sched {s : State} {x : Turn} {ts : List Turn} (h : s.sched = x :: ts) : s.takeTurn =
    { s with sched := ts, rdata := none, adcStart := false, spiTx := none, rstHeld := rstAfter x } := by
  simp [State.takeTurn, State.popTurn, nextTurn_of_sched h, h]

@[simp] theorem rstAfter_event (e : Event) : rstAfter (.event e) = (e == .reset) := by
  cases e <;> rfl

/-! ## What `step` runs -/

theorem step_of_host {s : State} {w : HtWord} (hl : s.params.legal = true) (hn : s.nextTurn = .host w) :
    step s = exec (decode w) s.takeTurn := by
  simp [step, hl, State.action, hn]

/-- A RESET is executed only where RST was 0 (R280); every other event always is. -/
theorem step_of_event {s : State} {e : Event} (hl : s.params.legal = true) (hn : s.nextTurn = .event e)
    (hr : e = .reset → s.rstHeld = false) : step s = exec e.instr s.takeTurn := by
  have hheld : (e == .reset && s.rstHeld) = false := by
    by_cases he : e = .reset
    · simp [hr he]
    · simp [he]
  simp [step, hl, State.action, hn, hheld]

theorem step_of_illegal {s : State} (hl : s.params.legal = false) : step s = .refused .illegalParameters := by
  simp [step, hl]

/-- No instruction traps (R91, R297). -/
theorem exec_next (i : Instr) (s : State) : ∃ t, exec i s = .next t := by
  cases i <;> exact ⟨_, rfl⟩

theorem step_next_of_legal {s : State} (hl : s.params.legal = true) : ∃ t, step s = .next t := by
  unfold step
  rw [if_pos hl]
  cases s.action with
  | instr i => exact exec_next i _
  | clock => exact ⟨_, rfl⟩
  | heldReset => exact ⟨_, rfl⟩

theorem step_refuses_iff (s : State) : step s = .refused .illegalParameters ↔ ¬ s.params.legal = true := by
  refine ⟨fun h hl => ?_, fun h => step_of_illegal (by simpa using h)⟩
  obtain ⟨t, ht⟩ := step_next_of_legal hl
  simp [ht] at h

/-- Settles O5: a listed host word is the next turn, and `takeTurn` is the state around `exec`. -/
theorem stepRunsDecodedWord : Obligations.StepRunsDecodedWord := by
  intro s w ts hl hs
  rw [step_of_host hl (nextTurn_of_sched hs), takeTurn_of_sched hs]
  rfl

/-- Settles O6: a listed event is the next turn; RST becomes 1 exactly where the event is RESET. -/
theorem stepRunsAgentEvent : Obligations.StepRunsAgentEvent := by
  intro s e ts hl hs
  refine ⟨fun he => ?_, ?_⟩
  · have hrst : rstAfter (.event e) = false := by simpa using he
    rw [step_of_event hl (nextTurn_of_sched hs) (fun h => absurd h he), takeTurn_of_sched hs, hrst]
  · rintro rfl hr
    rw [step_of_event hl (nextTurn_of_sched hs) (fun _ => hr), takeTurn_of_sched hs]
    rfl

/-! ## Parameters -/

theorem legalWidth_iff (w : Nat) : legalWidth w = true ↔ 1 ≤ w ∧ w ≤ 16 := by
  simp [legalWidth]

theorem timeoutLegal_iff (b : Timeout) : b.legal = true ↔ b = .unbounded ∨ ∃ n, b = .bounded n ∧ 0 < n := by
  cases b <;> simp [Timeout.legal]

/-- The constraints of R7, written out. -/
theorem paramsLegal_iff (p : Params) : p.legal = true ↔
    1 ≤ p.wS ∧ p.wS ≤ 16 ∧ 1 ≤ p.wOut ∧ p.wOut ≤ 16 ∧ 1 ≤ p.wTmr ∧ p.wTmr ≤ 16 ∧
      (p.adcTimeout = .unbounded ∨ ∃ n, p.adcTimeout = .bounded n ∧ 0 < n) ∧
      (p.spiTimeout = .unbounded ∨ ∃ n, p.spiTimeout = .bounded n ∧ 0 < n) := by
  simp only [Params.legal, Bool.and_eq_true, legalWidth_iff, timeoutLegal_iff, and_assoc]

/-- Settles O9: `step` refuses where `Params.legal` fails and nowhere else, since no action is refused. -/
theorem illegalParametersAreRefused : Obligations.IllegalParametersAreRefused := by
  intro s
  rw [step_refuses_iff, paramsLegal_iff]

theorem effect_params {i : Instr} {s t : State} (h : Effect i s t) : t.params = s.params := by
  cases h <;> rfl

/-- Settles O17: no effect of a step touches the parameters, nor does a turn, a CLK edge or a held reset. -/
theorem parametersNeverChange : Obligations.ParametersNeverChange := by
  refine ⟨fun i s t h => effect_params (exec_effect h), fun s t h => ?_⟩
  obtain ⟨-, ⟨i, hx, -⟩ | ⟨-, rfl, -⟩ | ⟨-, -, rfl⟩⟩ := step_cases h
  · rw [effect_params (exec_effect hx), takeTurn_params]
  · simp
  · simp

/-! ## The invariants: what configure and update do to the filter -/

theorem nibbleMode_ne_uncfg (n : Nibble) : nibbleMode n ≠ .uncfg := by
  revert n; decide

theorem nibbleMode_active_iff (n : Nibble) :
    nibbleMode n = .active ↔ 2 ≤ (nibbleDepth n).toNat ∧ (nibbleDepth n).toNat ≤ 5 := by
  revert n; decide

theorem nibbleMode_ne_active_iff (n : Nibble) : nibbleMode n ≠ .active ↔ nibbleDepth n = 0 := by
  revert n; decide

/-- The write pointer stays below the depth (R176). -/
theorem advanced_wp_lt (wp d : Three) (hd : 0 < d.toNat) :
    (BitVec.ofNat 3 ((wp.toNat + 1) % d.toNat)).toNat < d.toNat := by
  rw [BitVec.toNat_ofNat]
  exact (Nat.mod_le _ _).trans_lt (Nat.mod_lt _ hd)

/-- A slot that is set holds the new value, the others their old ones. -/
theorem forall_mem_setIfInBounds {P : Word → Prop} {hist : Vector Word 5} (k : Nat) {v : Word}
    (hh : ∀ x ∈ hist.toList, P x) (hv : P v) : ∀ x ∈ (hist.setIfInBounds k v).toList, P x := by
  intro x hx
  rw [Vector.toList_setIfInBounds] at hx
  rcases List.mem_or_eq_of_mem_set hx with hx | rfl
  · exact hh x hx
  · exact hv

/-! ## The invariants: every step keeps them -/

/-- The reset values meet the invariants, whatever the trace, the inputs and RST (R39, R40). -/
theorem resetElements_inv {s : State} (hl : s.params.legal = true) (l : List TraceEvent) :
    ({ s.resetElements with trace := l } : State).Inv where
  legal := hl
  activeDepth := by simp
  otherDepth := by simp
  activeWp := by simp
  legalWp := by simp
  armConfigured := by simp
  tickConfigured := by simp
  tickPending := by simp
  tickHigh := by simp
  csAsserted := by simp
  adcFault := by simp
  spiFault := by simp
  histFits := by simp
  outFits := by simp
  reloadFits := by simp
  countFits := by simp
  heldAtReset := fun _ => rfl

/-- Where RST is 0, taking a turn keeps the invariants: they speak of nothing that a turn touches. -/
theorem takeTurn_inv {s : State} (hs : s.Inv) (hr : s.takeTurn.rstHeld = false) : s.takeTurn.Inv := by
  have hheld : s.takeTurn.rstHeld = true → s.takeTurn.resetElements = s.takeTurn :=
    fun h => absurd (hr.symm.trans h) Bool.false_ne_true
  rw [takeTurn_eq] at hheld ⊢
  exact { hs with heldAtReset := hheld }

theorem clockEdge_inv {s : State} (hs : s.Inv) (hr : s.rstHeld = false) : (clockEdge s).Inv :=
  { hs with heldAtReset := fun h => absurd (hr.symm.trans h) Bool.false_ne_true }

/-- Every effect but RESET's keeps the invariants. Each case names the clauses whose fields it changes. -/
theorem effect_keeps_inv {i : Instr} {s t : State} (h : Effect i s t) (hi : i ≠ .reset) (hs : s.Inv)
    (hr : s.rstHeld = false) : t.Inv := by
  have hheld {p : Prop} : s.rstHeld = true → p := fun h => absurd (hr.symm.trans h) Bool.false_ne_true
  have hcount (c : Bool) : (if c then s.reload else s.count).toNat ≤ 2 ^ s.params.wTmr - 1 := by
    split
    · exact hs.reloadFits
    · exact hs.countFits
  cases h with
  | read => exact { hs with heldAtReset := hheld }
  | same => exact hs
  | wrReload _ d => exact { hs with heldAtReset := hheld, reloadFits := truncTo_le _ _ }
  | wrCtrlConfigure _ d =>
    exact { hs with
      heldAtReset := hheld
      activeDepth := nibbleMode_active_iff _
      otherDepth := nibbleMode_ne_active_iff _
      activeWp := fun h => Nat.lt_of_lt_of_le Nat.two_pos ((nibbleMode_active_iff _).1 h).1
      legalWp := Nat.zero_le 4
      armConfigured := fun _ => nibbleMode_ne_uncfg _
      tickConfigured := fun _ => nibbleMode_ne_uncfg _
      histFits := by simp
      countFits := hcount _ }
  | wrCtrlConfigured _ d hm =>
    exact { hs with heldAtReset := hheld, armConfigured := fun _ => hm, countFits := hcount _ }
  | wrCtrlRefused _ d =>
    exact { hs with
      heldAtReset := hheld
      armConfigured := fun h => hs.armConfigured (Bool.and_elim_left h) }
  | wrExpcmdStart =>
    exact { hs with heldAtReset := hheld, csAsserted := by simp, spiFault := by simp }
  | wrExpcmdBusy => exact { hs with heldAtReset := hheld }
  | tceCount _ _ h0 =>
    have hdec : (s.count - 1).toNat ≤ s.count.toNat := by bv_omega
    exact { hs with heldAtReset := hheld, countFits := hdec.trans hs.countFits }
  | tceExpire =>
    exact { hs with heldAtReset := hheld, tickPending := fun _ => rfl, countFits := Nat.zero_le _ }
  | seqT1 _ hseq ha hp =>
    exact { hs with
      heldAtReset := hheld
      tickConfigured := fun _ => hs.armConfigured ha
      tickPending := fun _ => hp
      tickHigh := by simp
      adcFault := by simp
      countFits := hs.reloadFits }
  | seqT2 _ hseq =>
    exact { hs with
      heldAtReset := hheld
      tickConfigured := fun _ => hs.tickConfigured (by simp [hseq])
      tickPending := fun _ => hs.tickPending (.inl hseq)
      tickHigh := by simp [hs.tickHigh, hseq]
      adcFault := by simp }
  | adcDoneActive _ v hseq hm hist hh y hy =>
    obtain ⟨hlo, hhi⟩ := hs.activeDepth.1 hm
    have hwp := advanced_wp_lt s.wp s.depth (by omega)
    subst hh hy
    exact { hs with
      heldAtReset := hheld
      activeWp := fun _ => hwp
      legalWp := by simp only; omega
      tickConfigured := fun _ => hs.tickConfigured (by simp [hseq])
      tickPending := fun _ => hs.tickPending (.inr (.inl hseq))
      tickHigh := by simp [hs.tickHigh, hseq]
      adcFault := by simp
      histFits := forall_mem_setIfInBounds _ hs.histFits (truncTo_le _ _)
      outFits := truncTo_le _ _ }
  | adcDoneOther _ v hseq =>
    exact { hs with
      heldAtReset := hheld
      tickConfigured := fun _ => hs.tickConfigured (by simp [hseq])
      tickPending := fun _ => hs.tickPending (.inr (.inl hseq))
      tickHigh := by simp [hs.tickHigh, hseq]
      adcFault := by simp
      outFits := Nat.zero_le _ }
  | seqT4 =>
    exact { hs with
      heldAtReset := hheld
      tickConfigured := by simp
      tickPending := by simp
      tickHigh := by simp
      adcFault := by simp }
  | adcTimeout _ _ hseq =>
    exact { hs with
      heldAtReset := hheld
      tickConfigured := fun _ => hs.tickConfigured (by simp [hseq])
      tickPending := by simp
      tickHigh := by simp [hs.tickHigh, hseq]
      adcFault := fun _ => rfl }
  | spiDone0 _ he | spiDone1 _ he =>
    exact { hs with
      heldAtReset := hheld
      csAsserted := by simp [hs.csAsserted, he]
      spiFault := by simp }
  | spiDone2 => exact { hs with heldAtReset := hheld, csAsserted := by simp, spiFault := by simp }
  | spiTimeout =>
    exact { hs with heldAtReset := hheld, csAsserted := by simp, spiFault := fun _ => rfl }
  | reset => exact absurd rfl hi

/-- An executed RESET reaches the invariants from any state with legal parameters. -/
theorem effect_reset_inv {s t : State} (h : Effect .reset s t) (hl : s.params.legal = true) : t.Inv := by
  cases h with
  | read _ _ _ ha => cases ha
  | same _ _ hstay => exact hstay.elim
  | reset => exact resetElements_inv hl _

/-- Settles O12: where RST is 0 the turn and the effect each keep the invariants; where it is 1 the reset values
meet them. -/
theorem stepKeepsInvariants : Obligations.StepKeepsInvariants := by
  intro s t hs h
  have hl : s.takeTurn.params.legal = true := by simpa using hs.legal
  obtain ⟨-, ⟨i, hx, hother, -⟩ | ⟨-, rfl, hr⟩ | ⟨-, -, rfl⟩⟩ := step_cases h
  · by_cases hi : i = .reset
    · subst hi
      exact effect_reset_inv (exec_effect hx) hl
    · have hr := hother hi
      exact effect_keeps_inv (exec_effect hx) hi (takeTurn_inv hs hr) hr
  · exact clockEdge_inv (takeTurn_inv hs hr) hr
  · exact resetElements_inv hl _

/-! ## Fair runs: SEQ moves only forward through a tick -/

/-- Where SEQ can stand after a step: it stays, is reset or returned to IDLE, enters FAULT, or goes on by one. -/
inductive SeqMove : SeqState → SeqState → Prop
  | stay (q : SeqState) : SeqMove q q
  | toIdle (q : SeqState) : SeqMove q .idle
  | toFault (q : SeqState) : SeqMove q .fault
  | rise : SeqMove .idle .sampling
  | start : SeqMove .sampling .converting
  | latch : SeqMove .converting .done

theorem effect_seqMove {i : Instr} {s t : State} (h : Effect i s t) : SeqMove s.seq t.seq := by
  cases h with
  | seqT1 _ hs => rw [hs]; exact .rise
  | seqT2 _ hs => rw [hs]; exact .start
  | adcDoneActive _ _ hs | adcDoneOther _ _ hs => rw [hs]; exact .latch
  | seqT4 => exact .toIdle _
  | adcTimeout => exact .toFault _
  | reset => exact .toIdle _
  | _ => exact .stay _

theorem step_seqMove {s t : State} (h : step s = .next t) : SeqMove s.seq t.seq := by
  obtain ⟨-, ⟨i, hx, -⟩ | ⟨-, rfl, -⟩ | ⟨-, -, rfl⟩⟩ := step_cases h
  · simpa using effect_seqMove (exec_effect hx)
  · simpa using SeqMove.stay s.seq
  · exact .toIdle _

theorem effect_seqT2_seq {s t : State} (h : Effect .seqT2 s t) (hs : s.seq = .sampling) : t.seq = .converting := by
  cases h with
  | read _ _ _ ha => cases ha
  | same _ _ hstay => exact absurd hs hstay
  | seqT2 => rfl

theorem effect_adcDone_seq {s t : State} {v : Word} (h : Effect (.adcDone v) s t) (hs : s.seq = .converting) :
    t.seq = .done := by
  cases h with
  | read _ _ _ ha => cases ha
  | same _ _ hstay => exact absurd hs hstay
  | adcDoneActive | adcDoneOther => rfl

theorem effect_seqT4_seq {s t : State} (h : Effect .seqT4 s t) (hs : s.seq = .done) : t.seq = .idle := by
  cases h with
  | read _ _ _ ha => cases ha
  | same _ _ hstay => exact absurd hs hstay
  | seqT4 => rfl

/-- Whenever SEQ stands in `q` in a run, it comes to IDLE or FAULT later. -/
def EndsFrom (run : Nat → State) (q : SeqState) : Prop :=
  ∀ n, (run n).seq = q → ∃ m, n ≤ m ∧ ((run m).seq = .idle ∨ (run m).seq = .fault)

section
variable {turns : Nat → Turn} {run : Nat → State}

theorem run_seqMove (hr : RunsUnder turns run) (n : Nat) : SeqMove (run n).seq (run (n + 1)).seq := by
  simpa using step_seqMove (hr n)

/-- An event that a run's stream gives takes its effect from the same SEQ. -/
theorem run_effect (hr : RunsUnder turns run) {e : Event} (he : e ≠ .reset) {n : Nat} (hn : turns n = .event e) :
    ∃ s, s.seq = (run n).seq ∧ Effect e.instr s (run (n + 1)) := by
  have hstep := hr n
  have hl := (step_cases hstep).1
  rw [step_of_event hl (nextTurn_of_sched (by rw [hn])) (fun h => absurd h he)] at hstep
  exact ⟨_, by simp, exec_effect hstep⟩

/-- A run that leaves `q` each time ends the tick from `q`, if it does from every state that comes after `q`. -/
theorem endsFrom_of_leaves (hr : RunsUnder turns run) {q : SeqState}
    (hleaves : ∀ n, (run n).seq = q → ∃ m, n ≤ m ∧ (run m).seq ≠ q)
    (hnext : ∀ q', SeqMove q q' → q' ≠ q → EndsFrom run q') : EndsFrom run q := by
  intro n hn
  have hwait (m : Nat) (hm : n ≤ m) :
      (run m).seq = q ∨ ∃ k, n ≤ k ∧ ((run k).seq = .idle ∨ (run k).seq = .fault) := by
    induction m, hm using Nat.le_induction with
    | base => exact .inl hn
    | succ m hm ih =>
      refine ih.elim (fun hq => ?_) .inr
      by_cases hq' : (run (m + 1)).seq = q
      · exact .inl hq'
      · obtain ⟨k, hk, hend⟩ := hnext _ (hq ▸ run_seqMove hr m) hq' (m + 1) rfl
        exact .inr ⟨k, by omega, hend⟩
  obtain ⟨m, hm, hne⟩ := hleaves n hn
  exact (hwait m hm).resolve_left hne

/-- A run that takes at `m` an event which moves SEQ away from `q` stands elsewhere at `m` already, or right after. -/
theorem leaves_of_event (hr : RunsUnder turns run) {q : SeqState} {n m : Nat} {e : Event} (hm : n ≤ m)
    (he : e ≠ .reset) (hturn : turns m = .event e)
    (heffect : ∀ s t, Effect e.instr s t → s.seq = q → t.seq ≠ q) : ∃ m, n ≤ m ∧ (run m).seq ≠ q := by
  by_cases hq : (run m).seq = q
  · obtain ⟨s, hs, hx⟩ := run_effect hr he hturn
    exact ⟨m + 1, by omega, heffect s _ hx (hs.trans hq)⟩
  · exact ⟨m, hm, hq⟩

theorem endsFrom_idle : EndsFrom run .idle := fun n hn => ⟨n, Nat.le_refl n, .inl hn⟩

theorem endsFrom_fault : EndsFrom run .fault := fun n hn => ⟨n, Nat.le_refl n, .inr hn⟩

theorem endsFrom_done (h : FairRun turns run) : EndsFrom run .done := by
  refine endsFrom_of_leaves h.runs (fun n hn => ?_) (fun q' hmove hne => ?_)
  · obtain ⟨m, hm, hturn | hoff⟩ := h.seqSteps .seqT4 n (by simp [seqEnabled, hn])
    · exact leaves_of_event h.runs hm (by simp) hturn fun s t hx hs => by simp [effect_seqT4_seq hx hs]
    · exact ⟨m, hm, by simpa [seqEnabled] using hoff⟩
  · cases hmove with
    | stay => exact absurd rfl hne
    | toIdle => exact endsFrom_idle
    | toFault => exact endsFrom_fault

theorem endsFrom_converting (h : FairRun turns run) : EndsFrom run .converting := by
  refine endsFrom_of_leaves h.runs (fun n hn => ?_) (fun q' hmove hne => ?_)
  · obtain ⟨m, hm, ⟨v, hturn⟩ | hoff⟩ := h.conversions n hn
    · exact leaves_of_event h.runs hm (by simp) hturn fun s t hx hs => by simp [effect_adcDone_seq hx hs]
    · exact ⟨m, hm, hoff⟩
  · cases hmove with
    | stay => exact absurd rfl hne
    | toIdle => exact endsFrom_idle
    | toFault => exact endsFrom_fault
    | latch => exact endsFrom_done h

theorem endsFrom_sampling (h : FairRun turns run) : EndsFrom run .sampling := by
  refine endsFrom_of_leaves h.runs (fun n hn => ?_) (fun q' hmove hne => ?_)
  · obtain ⟨m, hm, hturn | hoff⟩ := h.seqSteps .seqT2 n (by simp [seqEnabled, hn])
    · exact leaves_of_event h.runs hm (by simp) hturn fun s t hx hs => by simp [effect_seqT2_seq hx hs]
    · exact ⟨m, hm, by simpa [seqEnabled] using hoff⟩
  · cases hmove with
    | stay => exact absurd rfl hne
    | toIdle => exact endsFrom_idle
    | toFault => exact endsFrom_fault
    | start => exact endsFrom_converting h

end

/-- Settles O60: from each state of SEQ a fair run comes to IDLE or FAULT, by way of the states after it in the tick. -/
theorem fairRunsEndEveryTick : Obligations.FairRunsEndEveryTick := by
  intro turns run h n
  cases hn : (run n).seq with
  | idle => exact endsFrom_idle n hn
  | sampling => exact endsFrom_sampling h n hn
  | converting => exact endsFrom_converting h n hn
  | done => exact endsFrom_done h n hn
  | fault => exact endsFrom_fault n hn

end Sys2Proof.Machine
end

section
/-! PROOFS. The elements of the state: what a CLK edge counts (O8), who writes each element (O26, O55), their values
after reset (O13, O14), PENDING beside TICK (O18), and the first WR.CTRL with CONFIGURE (O27). -/

namespace Sys2Proof.Machine

/-! ## Words of one row -/

/-- A row's words are those with its fields W and A, so what the row decodes to is settled on `htWord` (R92). -/
theorem decodesAs_of_htWord {pattern : HtWord} {f : Word → Instr} (b : Bool) (a : Three) (hp : pattern = htWord b a 0)
    (hf : ∀ d, decode (htWord b a d) = f d) : DecodesAs pattern f := by
  intro w hw
  obtain ⟨b', a', d, rfl⟩ := exists_fields w
  rw [htWord_and_mask, hp] at hw
  have hb : b' = b := by simpa using congrArg wField hw
  have ha : a' = a := by simpa using congrArg aField hw
  rw [hb, ha, hf, dField_htWord]

/-- The host's words carry no step of another agent (R94). -/
theorem decode_ne_event (w : HtWord) (e : Event) : decode w ≠ e.instr := by
  unfold decode
  cases e <;> split <;> simp [Event.instr]

/-! ## A CLK edge -/

theorem step_of_clk {s : State} (hl : s.params.legal = true) (hn : s.nextTurn = .clk) :
    step s = .next (clockEdge s.takeTurn) := by
  simp [step, hl, State.action, hn]

/-- A CLK edge writes the two wait counters and lists turns before those that stand listed (R37). -/
theorem clockEdge_eq (s : State) : clockEdge s =
    { s with
      sched := (if s.countWaits.adcDue then [.event .adcTimeout] else []) ++
        (if s.countWaits.spiDue then [.event .spiTimeout] else []) ++ s.sched
      adcWait := (clockEdge s).adcWait
      spiWait := (clockEdge s).spiWait } := rfl

/-- In a bounded wait for ADC_DONE a CLK edge counts, and the wait is due where the count reaches the bound (R207). -/
theorem clockEdge_adc_of_bounded {s : State} {n : Nat} (hn : s.params.adcTimeout = .bounded n)
    (hs : s.seq = .converting) :
    (clockEdge s).adcWait = s.adcWait + 1 ∧ s.countWaits.adcDue = decide (n ≤ s.adcWait + 1) := by
  obtain ⟨hw, -⟩ | ⟨m, hm, -, hwait, hdue⟩ := clockEdge_adc s
  · exact absurd ((adcWaits_iff s).2 ⟨⟨n, hn⟩, hs⟩) (by simp [hw])
  · obtain rfl : n = m := by simpa using hn.symm.trans hm
    exact ⟨hwait, hdue⟩

theorem clockEdge_adc_of_not_waiting {s : State} (h : s.params.adcTimeout = .unbounded ∨ s.seq ≠ .converting) :
    (clockEdge s).adcWait = s.adcWait ∧ s.countWaits.adcDue = false := by
  obtain ⟨-, hkeep⟩ | ⟨n, hn, hs, -⟩ := clockEdge_adc s
  · exact hkeep
  · simp [hn, hs] at h

/-- In a bounded wait for SPI_DONE a CLK edge counts, and the wait is due where the count reaches the bound (R147). -/
theorem clockEdge_spi_of_bounded {s : State} {n : Nat} (hn : s.params.spiTimeout = .bounded n)
    (hs : s.exp.busy = true) :
    (clockEdge s).spiWait = s.spiWait + 1 ∧ s.countWaits.spiDue = decide (n ≤ s.spiWait + 1) := by
  obtain ⟨hw, -⟩ | ⟨m, hm, -, hwait, hdue⟩ := clockEdge_spi s
  · exact absurd ((spiWaits_iff s).2 ⟨⟨n, hn⟩, hs⟩) (by simp [hw])
  · obtain rfl : n = m := by simpa using hn.symm.trans hm
    exact ⟨hwait, hdue⟩

theorem clockEdge_spi_of_not_waiting {s : State} (h : s.params.spiTimeout = .unbounded ∨ s.exp.busy = false) :
    (clockEdge s).spiWait = s.spiWait ∧ s.countWaits.spiDue = false := by
  obtain ⟨-, hkeep⟩ | ⟨n, hn, hs, -⟩ := clockEdge_spi s
  · exact hkeep
  · simp [hn, hs] at h

/-- Settles O8: the step is `clockEdge` of the turn, whose two waits are each bounded and in progress, or left. -/
theorem clockTurnCountsWaits : Obligations.ClockTurnCountsWaits := by
  intro s ts hl hs
  refine ⟨clockEdge s.takeTurn,
    if s.takeTurn.countWaits.adcDue then [.event .adcTimeout] else [],
    if s.takeTurn.countWaits.spiDue then [.event .spiTimeout] else [],
    step_of_clk hl (nextTurn_of_sched hs), ?_, ?_, ?_, ?_, ?_⟩
  · conv_lhs => rw [clockEdge_eq]
    rw [takeTurn_of_sched hs]
    rfl
  · intro n hn hseq
    obtain ⟨hwait, hdue⟩ := clockEdge_adc_of_bounded (s := s.takeTurn) (by simpa using hn) (by simpa using hseq)
    simp [hwait, hdue]
  · intro hout
    obtain ⟨hwait, hdue⟩ := clockEdge_adc_of_not_waiting (s := s.takeTurn) (by simpa using hout)
    simp [hwait, hdue]
  · intro n hn hbusy
    obtain ⟨hwait, hdue⟩ := clockEdge_spi_of_bounded (s := s.takeTurn) (by simpa using hn) (by simpa using hbusy)
    simp [hwait, hdue]
  · intro hout
    obtain ⟨hwait, hdue⟩ := clockEdge_spi_of_not_waiting (s := s.takeTurn) (by simpa using hout)
    simp [hwait, hdue]

/-! ## Who writes COUNT and the latch -/

/-- A WR.CTRL that changes COUNT arms a disarmed block and loads RELOAD (R209). -/
theorem arm_of_count_ne {arms armed : Bool} {reload count : Word}
    (h : (if arms && !armed then reload else count) ≠ count) :
    arms = true ∧ armed = false ∧ (if arms && !armed then reload else count) = reload := by
  cases arms <;> cases armed <;> simp at h ⊢

/-- Who changes COUNT (R28): TCE, T1, an arm and RESET. -/
theorem effect_count_writer {i : Instr} {s t : State} (h : Effect i s t) (hc : t.count ≠ s.count) :
    i = .tce ∧ s.arm = true ∧ t.count.toNat + 1 = s.count.toNat ∨
    i = .seqT1 ∧ t.count = s.reload ∨
    (∃ d, i = .wrCtrl d ∧ d.getLsbD 0 = true ∧ s.arm = false ∧ t.count = s.reload) ∨
    i = .reset ∧ t.count = 0 := by
  cases h with
  | wrCtrlConfigure _ d | wrCtrlConfigured _ d => exact .inr (.inr (.inl ⟨d, rfl, arm_of_count_ne hc⟩))
  | tceCount _ ha h0 =>
    have hdec : (s.count - 1).toNat + 1 = s.count.toNat := by bv_omega
    exact .inl ⟨rfl, ha, hdec⟩
  | tceExpire _ ha h1 => exact .inl ⟨rfl, ha, by simp [h1]⟩
  | seqT1 => exact .inr (.inl ⟨rfl, rfl⟩)
  | reset => exact .inr (.inr (.inr ⟨rfl, rfl⟩))
  | _ => exact absurd rfl hc

/-- Who changes OUT_LATCH (R32): T3 and RESET. -/
theorem effect_outLatch_writer {i : Instr} {s t : State} (h : Effect i s t) (hc : t.outLatch ≠ s.outLatch) :
    (∃ v, i = .adcDone v) ∧ s.seq = .converting ∨ i = .reset := by
  cases h with
  | adcDoneActive _ v hs | adcDoneOther _ v hs => exact .inl ⟨⟨v, rfl⟩, hs⟩
  | reset => exact .inr rfl
  | _ => exact absurd rfl hc

/-- Settles O26: the two writes decode to ignored ones, and of the writers of COUNT only an arm is a host word. -/
theorem wrCountAndWrOutChangeNothing : Obligations.WrCountAndWrOutChangeNothing := by
  refine ⟨decodesAs_of_htWord true 3 (by decide) (by simp [decode]),
    decodesAs_of_htWord true 4 (by decide) (by simp [decode]), fun s d => ⟨rfl, rfl⟩, ?_,
    fun i s t h hc => effect_count_writer (exec_effect h) hc,
    fun i s t h hc => effect_outLatch_writer (exec_effect h) hc⟩
  intro w s t h hc
  obtain ⟨hi, -⟩ | ⟨hi, -⟩ | harm | ⟨hi, -⟩ := effect_count_writer (exec_effect h) hc
  · exact absurd hi (decode_ne_event w .tce)
  · exact absurd hi (decode_ne_event w .seqT1)
  · exact harm
  · exact absurd hi (decode_ne_event w .reset)

/-! ## Who writes the other elements -/

section
variable {i : Instr} {s t : State}

/-- Who changes HIST or WP (R22): an update in mode ACTIVE and the one configure. -/
theorem effect_hist_writer (h : Effect i s t) (hi : i ≠ .reset) (hc : t.hist ≠ s.hist ∨ t.wp ≠ s.wp) :
    (∃ v, i = .adcDone v) ∧ s.seq = .converting ∧ s.fmode = .active ∨
      ∃ d, i = .wrCtrl d ∧ d.getLsbD 1 = true ∧ s.fmode = .uncfg := by
  cases h with
  | adcDoneActive _ v hs hm => exact .inl ⟨⟨v, rfl⟩, hs, hm⟩
  | wrCtrlConfigure _ d hm h1 => exact .inr ⟨d, rfl, h1, hm⟩
  | reset => exact absurd rfl hi
  | _ => exact hc.elim (absurd rfl) (absurd rfl)

/-- Who changes RELOAD (R27). -/
theorem effect_reload_writer (h : Effect i s t) (hi : i ≠ .reset) (hc : t.reload ≠ s.reload) :
    ∃ d, i = .wrReload d := by
  cases h with
  | wrReload _ d => exact ⟨d, rfl⟩
  | reset => exact absurd rfl hi
  | _ => exact absurd rfl hc

/-- Who changes PENDING (R29): an expiry sets it and T4 clears it. -/
theorem effect_pending_writer (h : Effect i s t) (hi : i ≠ .reset) (hc : t.pending ≠ s.pending) :
    t.pending = true ∧ i = .tce ∧ s.arm = true ∧ s.count = 1 ∨
      t.pending = false ∧ i = .seqT4 ∧ s.seq = .done := by
  cases h with
  | tceExpire _ ha h1 => exact .inl ⟨rfl, rfl, ha, h1⟩
  | seqT4 _ hs => exact .inr ⟨rfl, rfl, hs⟩
  | reset => exact absurd rfl hi
  | _ => exact absurd rfl hc

/-- Who changes the frame latch (R34): an accepted write of EXPCMD. -/
theorem effect_frameLatch_writer (h : Effect i s t) (hi : i ≠ .reset)
    (hc : t.expAddr ≠ s.expAddr ∨ t.expData ≠ s.expData) : ∃ d, i = .wrExpcmd d ∧ s.exp = .idle := by
  cases h with
  | wrExpcmdStart _ d he => exact ⟨d, rfl, he⟩
  | reset => exact absurd rfl hi
  | _ => exact hc.elim (absurd rfl) (absurd rfl)

/-- A refused WR.CTRL leaves `ARM && D[0]`; where that is a change, it is D[0]. -/
theorem and_eq_right_of_ne_left {a b : Bool} (h : (a && b) ≠ a) : (a && b) = b := by
  cases a <;> simp at h ⊢

/-- Who changes ARM (R26), and to what. -/
theorem effect_arm_writer (h : Effect i s t) (hi : i ≠ .reset) (hc : t.arm ≠ s.arm) :
    ∃ d, i = .wrCtrl d ∧ t.arm = d.getLsbD 0 := by
  cases h with
  | wrCtrlConfigure _ d | wrCtrlConfigured _ d => exact ⟨d, rfl, rfl⟩
  | wrCtrlRefused _ d => exact ⟨d, rfl, and_eq_right_of_ne_left hc⟩
  | reset => exact absurd rfl hi
  | _ => exact absurd rfl hc

end

/-- Settles O55: the writers of each element among the effects of a step. -/
theorem elementsChangeOnlyByTheirWriters : Obligations.ElementsChangeOnlyByTheirWriters := by
  intro i s t hi hx
  have h := exec_effect hx
  refine ⟨effect_hist_writer h hi, effect_reload_writer h hi, fun hs ht => ?_, fun hs ht => ?_,
    effect_frameLatch_writer h hi, effect_arm_writer h hi⟩
  · obtain ⟨-, hset⟩ | ⟨hclear, -⟩ := effect_pending_writer h hi (by simp [hs, ht])
    · exact hset
    · exact absurd (ht.symm.trans hclear) (by simp)
  · obtain ⟨hset, -⟩ | ⟨-, hclear⟩ := effect_pending_writer h hi (by simp [hs, ht])
    · exact absurd (ht.symm.trans hset) (by simp)
    · exact hclear

/-! ## The reset values -/

/-- The state that a run starts from has the reset value in every element already. -/
theorem resetElements_resetWith (p : Params) : (State.resetWith p).resetElements = State.resetWith p := rfl

theorem resetWith_inv {p : Params} (hl : p.legal = true) : (State.resetWith p).Inv :=
  resetElements_inv (s := State.resetWith p) hl []

/-- Settles O13: both are states whose elements have the reset values. -/
theorem resetStateMeetsInvariants : Obligations.ResetStateMeetsInvariants :=
  ⟨fun _ hl => resetWith_inv hl, resetWith_inv (by decide)⟩

theorem exec_reset_eq (s : State) : exec .reset s =
    .next { s.resetElements with trace := s.trace ++ (if s.csN then [.reset] else [.csDeassert, .reset]) } :=
  congrArg Host.Outcome.next (resetBlock_eq s)

/-- A step of RESET leaves nothing for a further reset to change (R280). -/
theorem resetElements_of_exec_reset {s t : State} (h : exec .reset s = .next t) : t.resetElements = t := by
  rw [exec_reset_eq] at h
  cases h
  rfl

/-- Settles O14: in either state a further reset changes no element, and `resetElements` writes the table's values. -/
theorem resetStateHasTheTablesValues : Obligations.ResetStateHasTheTablesValues := by
  intro t h
  have hfix : t.resetElements = t := by
    obtain ⟨s, hs⟩ | ⟨p, rfl⟩ := h
    · exact resetElements_of_exec_reset hs
    · exact resetElements_resetWith p
  rw [← hfix]
  simp

/-! ## The status word -/

theorem statusWord_bit_pending (s : State) : (statusWord s).getLsbD 8 = s.pending := by
  simp only [statusWord, BitVec.getLsbD_append]
  simp

theorem statusWord_bit_tick (s : State) : (statusWord s).getLsbD 9 = s.tick := by
  simp only [statusWord, BitVec.getLsbD_append]
  simp

/-- Settles O18: the invariants give both bits in every state of SEQ but FAULT. -/
theorem pendingFollowsTick : Obligations.PendingFollowsTick := by
  intro s hs hfault hexpired
  rw [statusWord_bit_pending, statusWord_bit_tick]
  have hhigh := hs.tickHigh
  have hpending := hs.tickPending
  cases hseq : s.seq with
  | idle =>
    have hp : s.pending = false := by simpa [hseq] using hexpired
    have ht : s.tick = false := by simpa [hseq] using hhigh
    rw [hp, ht]
  | sampling | converting | done =>
    have hp : s.pending = true := hpending (by simp [hseq])
    have ht : s.tick = true := hhigh.2 (by simp [hseq])
    rw [hp, ht]
  | fault => exact absurd hseq hfault

/-! ## The first WR.CTRL with CONFIGURE -/

theorem cfgIn_of_cons {s : State} {n : Nibble} {ns : List Nibble} (h : s.cfgDraws = n :: ns) : s.cfgIn = n := by
  simp [State.cfgIn, h]

theorem takeCfgIn_of_cons {s : State} {n : Nibble} {ns : List Nibble} (h : s.cfgDraws = n :: ns) :
    s.takeCfgIn = { s with cfgDraws := ns } := by
  simp [State.takeCfgIn, h]

theorem cfgIn_of_nil {s : State} (h : s.cfgDraws = []) : s.cfgIn = Config.freeCfgIn s.cfgDrawn := by
  simp [State.cfgIn, h]

theorem takeCfgIn_of_nil {s : State} (h : s.cfgDraws = []) :
    s.takeCfgIn = { s with cfgDrawn := s.cfgDrawn + 1 } := by
  simp [State.takeCfgIn, h]

/-- The fixed mapping (R172), with the nibble as a number. -/
theorem nibbleMode_eq (n : Nibble) : nibbleMode n = if n.toNat < 4 then .active else .inactive := by
  revert n; decide

theorem nibbleDepth_eq (n : Nibble) : nibbleDepth n = if n.toNat < 4 then BitVec.ofNat 3 (n.toNat + 2) else 0 := by
  revert n; decide

/-- WR.CTRL with CONFIGURE on an unconfigured block, whatever way CFG_IN is drawn (R101, R171, R209, R210). -/
theorem exec_wrCtrl_configures {s : State} {d : Word} (hm : s.fmode = .uncfg) (h1 : d.getLsbD 1 = true) :
    exec (.wrCtrl d) s = .next { s.takeCfgIn with
      cfgNib := s.cfgIn
      fmode := if s.cfgIn.toNat < 4 then .active else .inactive
      depth := if s.cfgIn.toNat < 4 then BitVec.ofNat 3 (s.cfgIn.toNat + 2) else 0
      hist := Vector.replicate 5 0
      wp := 0
      arm := d.getLsbD 0
      count := if d.getLsbD 0 && !s.arm then s.reload else s.count } := by
  rw [← nibbleMode_eq, ← nibbleDepth_eq]
  obtain ⟨t, ht⟩ := exec_next (.wrCtrl d) s
  rw [ht]
  cases exec_effect ht with
  | read _ _ _ ha => cases ha
  | same _ _ hstay => exact hstay.elim
  | wrCtrlConfigure => rfl
  | wrCtrlConfigured _ _ hm' => exact absurd hm hm'
  | wrCtrlRefused _ _ _ h0 => exact absurd (h1.symm.trans h0) (by simp)

/-- Settles O27: one effect for both ways of drawing CFG_IN. -/
theorem wrCtrlConfiguresThenArms : Obligations.WrCtrlConfiguresThenArms := by
  refine ⟨decodesAs_of_htWord true 0 (by decide) (by simp [decode]), fun s d n hm h1 => ⟨fun ns hns => ?_, ?_⟩⟩
  · rw [exec_wrCtrl_configures hm h1, takeCfgIn_of_cons hns, cfgIn_of_cons hns]
  · rintro hnil rfl
    rw [exec_wrCtrl_configures hm h1, takeCfgIn_of_nil hnil, cfgIn_of_nil hnil]

end Sys2Proof.Machine
end

section
/-! PROOFS. Reads and traces: a step has one effect, the orders of SAMP's and of SPIX's events in the trace (O15, O16),
reads and the poll of EXP_BUSY (O24, O59), and SAMP beside SPIX (O54). -/

namespace Sys2Proof.Machine

/-! ## A step has one effect -/

section
variable {i : Instr} {s t u : State}

theorem not_stays_of_readAddr {a : Three} (h : readAddr i = some a) : ¬ Stays i s := by
  cases i with
  | rdCtrl | rdStatus | rdReload | rdCount | rdOut | rdExpcmd | rdCfg | rdRsv7 => exact id
  | _ => cases h

/-- A step that stays has no other effect: each guard of an effect denies the case in which the step stays. -/
theorem effect_of_stays (h : Effect i s t) (hs : Stays i s) : t = s := by
  cases h with
  | read _ _ _ ha => exact absurd hs (not_stays_of_readAddr ha)
  | same => rfl
  | wrExpcmdBusy _ _ he =>
    have hf : s.exp = .fault := hs
    simp [hf, ExpState.busy] at he
  | _ => simp_all [Stays]

/-- Where a step does not stay, the guards of its effects exclude each other. -/
theorem effect_unique (h : Effect i s t) (h' : Effect i s u) : t = u := by
  by_cases hs : Stays i s
  · rw [effect_of_stays h hs, effect_of_stays h' hs]
  cases h with
  | same => contradiction
  | read _ _ a ha =>
    cases h' with
    | read _ _ b hb =>
      obtain rfl : a = b := by simpa [ha] using hb
      rfl
    | same => contradiction
    | _ => cases ha
  | wrExpcmdStart _ _ he | wrExpcmdBusy _ _ he =>
    cases h' <;> simp_all [readAddr, ExpState.busy]
  | _ => cases h' <;> simp_all [readAddr]

/-- An effect is what `exec` answers. -/
theorem exec_of_effect (h : Effect i s t) : exec i s = .next t := by
  obtain ⟨u, hu⟩ := exec_next i s
  rw [hu, effect_unique (exec_effect hu) h]

end

/-! ## A step under the invariants -/

theorem resetElements_takeTurn (s : State) : s.takeTurn.resetElements = s.resetElements.takeTurn := by
  cases h : s.sched <;> simp [State.takeTurn, State.popTurn, State.nextTurn, State.resetElements, State.resetWith, h]

/-- Under the invariants a further cycle of RST changes nothing that the turn itself does not, so a step is an effect, a
CLK edge, or a turn alone (R280). -/
theorem step_cases_of_inv {s t : State} (hs : s.Inv) (h : step s = .next t) :
    (∃ i, Effect i s.takeTurn t) ∨ t = clockEdge s.takeTurn ∨ t = s.takeTurn := by
  obtain ⟨-, ⟨i, hx, -⟩ | ⟨-, ht, -⟩ | ⟨-, hr, ht⟩⟩ := step_cases h
  · exact .inl ⟨i, exec_effect hx⟩
  · exact .inr (.inl ht)
  · exact .inr (.inr (by rw [ht, resetElements_takeTurn, hs.heldAtReset hr]))

/-! ## The order of a tick -/

theorem tickNext_of_spix {e : TraceEvent} (he : e.ofSpix = true) (p : TickPhase) : tickNext p e = some p := by
  cases e with
  | csAssert | tx | csDeassert => cases p <;> rfl
  | tickRise | adcStart | outWrite | tickFall | reset => cases he

theorem tickNext_reset (p : TickPhase) : tickNext p .reset = some .none := by
  cases p <;> rfl

/-- The trace's events of SAMP come in the order of a tick, and SEQ stands where the trace ends (R71, R212). -/
def TickOrdered (s : State) : Prop := tickPhase s.trace = some s.seq.phase

theorem tickPhase_concat {l : List TraceEvent} {e : TraceEvent} {p q : TickPhase} (h : tickPhase l = some p)
    (he : tickNext p e = some q) : tickPhase (l ++ [e]) = some q := by
  simp [tickPhase_append h, he]

theorem tickPhase_concat_two {l : List TraceEvent} {e f : TraceEvent} {p q r : TickPhase} (h : tickPhase l = some p)
    (he : tickNext p e = some q) (hf : tickNext q f = some r) : tickPhase (l ++ [e, f]) = some r := by
  simp [tickPhase_append h, he, hf]

/-- Every event that a step emits is next in the order. Each step of SEQ has the state it needs as its guard, and an
abandoned conversion leaves the tick where it was (R212). -/
theorem effect_keeps_tickOrdered {i : Instr} {s t : State} (h : Effect i s t) (ho : TickOrdered s) :
    TickOrdered t := by
  have hat {q : SeqState} (hs : s.seq = q) : tickPhase s.trace = some q.phase := hs ▸ ho
  cases h with
  | seqT1 _ hs | seqT2 _ hs | adcDoneActive _ _ hs | adcDoneOther _ _ hs | seqT4 _ hs =>
    exact tickPhase_concat (hat hs) rfl
  | adcTimeout _ _ hs => exact (hat hs).trans rfl
  | wrExpcmdStart => exact tickPhase_concat_two ho (tickNext_of_spix rfl _) (tickNext_of_spix rfl _)
  | spiDone0 | spiDone1 | spiDone2 | spiTimeout => exact tickPhase_concat ho (tickNext_of_spix rfl _)
  | reset =>
    unfold TickOrdered
    split
    · exact tickPhase_concat ho (tickNext_reset _)
    · exact tickPhase_concat_two ho (tickNext_of_spix rfl _) (tickNext_reset _)
  | _ => exact ho

theorem takeTurn_tickOrdered {s : State} (ho : TickOrdered s) : TickOrdered s.takeTurn := by
  simpa [TickOrdered] using ho

/-- Settles O15: a turn and a CLK edge touch neither the trace nor SEQ, and every effect keeps the order. -/
theorem stepKeepsTickOrder : Obligations.StepKeepsTickOrder := by
  refine ⟨fun p => rfl, fun s t hs ho h => ?_⟩
  have hturn := takeTurn_tickOrdered ho
  obtain ⟨i, hx⟩ | rfl | rfl := step_cases_of_inv hs h
  · exact effect_keeps_tickOrdered hx hturn
  · exact hturn
  · exact hturn

/-! ## The order of a frame -/

/-- An event of SAMP leaves the frame phase, in a frame and outside one. -/
theorem frameNext_of_samp {e : TraceEvent} (he : e.ofSpix = false) (hr : e ≠ .reset) (b : Byte) (p : FramePhase) :
    frameNext b p e = some p := by
  cases e with
  | csAssert | tx | csDeassert => cases he
  | reset => exact absurd rfl hr
  | tickRise | adcStart | outWrite | tickFall =>
    match p with
    | .closed | .cut | .sent [] | .sent [_] | .sent [_, _] | .sent (_ :: _ :: _ :: _) => rfl

theorem frameNext_reset {p : FramePhase} (h : p = .closed ∨ p = .cut) (b : Byte) :
    frameNext b p .reset = some .closed := by
  obtain rfl | rfl := h <;> rfl

theorem framePhase_concat {b : Byte} {l : List TraceEvent} {e : TraceEvent} {p q : FramePhase}
    (h : framePhase b l = some p) (he : frameNext b p e = some q) : framePhase b (l ++ [e]) = some q := by
  simp [framePhase_append h, he]

theorem framePhase_concat_two {b : Byte} {l : List TraceEvent} {e f : TraceEvent} {p q r : FramePhase}
    (h : framePhase b l = some p) (he : frameNext b p e = some q) (hf : frameNext b q f = some r) :
    framePhase b (l ++ [e, f]) = some r := by
  simp [framePhase_append h, he, hf]

section
variable {s : State} {p : FramePhase}

/-- Outside a frame the phase is that of high chip select. -/
theorem high_of_frameAgrees (ha : frameAgrees s p = true) (hb : s.exp.busy = false) : p = .closed ∨ p = .cut := by
  cases he : s.exp with
  | idle => left; simpa [frameAgrees, he] using ha
  | fault => simpa [frameAgrees, he] using ha
  | b0 | b1 | b2 => simp [he, ExpState.busy] at hb

/-- In a frame chip select may rise at any point: the frame is then whole or cut (R147, R282). -/
theorem frameNext_csDeassert_of_frameAgrees (ha : frameAgrees s p = true) (hb : s.exp.busy = true) :
    ∃ q, frameNext s.params.writeOpcode p .csDeassert = some q ∧ (q = .closed ∨ q = .cut) := by
  cases he : s.exp with
  | idle | fault => simp [he, ExpState.busy] at hb
  | b0 | b1 =>
    simp only [frameAgrees, he, beq_iff_eq] at ha
    exact ⟨.cut, by rw [ha]; rfl, .inr rfl⟩
  | b2 =>
    simp only [frameAgrees, he, beq_iff_eq] at ha
    exact ⟨.closed, by rw [ha]; rfl, .inl rfl⟩

theorem csN_of_inv (hs : s.Inv) : s.csN = !s.exp.busy := by
  have hcs := hs.csAsserted
  cases he : s.exp <;> simpa [he, ExpState.busy] using hcs

end

/-- The trace is made of frames, and EXP and the frame latch stand where it ends (R71, R145). -/
def FrameOrdered (s : State) : Prop :=
  ∃ p, framePhase s.params.writeOpcode s.trace = some p ∧ frameAgrees s p = true

/-- What SAMP emits keeps the order of the frames. -/
theorem emit_samp_frameOrdered {s : State} {e : TraceEvent} (ho : FrameOrdered s) (he : e.ofSpix = false)
    (hr : e ≠ .reset) : FrameOrdered (s.emit e) := by
  obtain ⟨p, hp, ha⟩ := ho
  exact ⟨p, framePhase_concat hp (frameNext_of_samp he hr _ p), ha⟩

/-- Each byte is the one that EXP says is next, and chip select rises after the third byte, or before it by a timeout
or a reset (R143, R147, R282). -/
theorem effect_keeps_frameOrdered {i : Instr} {s t : State} (h : Effect i s t) (hcs : s.csN = !s.exp.busy)
    (ho : FrameOrdered s) : FrameOrdered t := by
  obtain ⟨p, hp, ha⟩ := ho
  cases h with
  | seqT1 | seqT2 | adcDoneActive | adcDoneOther | seqT4 =>
    exact emit_samp_frameOrdered ⟨p, hp, ha⟩ rfl (by simp)
  | wrExpcmdStart _ d he =>
    obtain rfl : p = .closed := by simpa [frameAgrees, he] using ha
    exact ⟨.sent [s.params.writeOpcode], framePhase_concat_two (q := .sent []) hp rfl (if_pos rfl), by
      simp [frameAgrees]⟩
  | spiDone0 _ he =>
    obtain rfl : p = .sent [s.params.writeOpcode] := by simpa [frameAgrees, he] using ha
    exact ⟨.sent [s.params.writeOpcode, s.expAddr], framePhase_concat hp rfl, by simp [frameAgrees]⟩
  | spiDone1 _ he =>
    obtain rfl : p = .sent [s.params.writeOpcode, s.expAddr] := by simpa [frameAgrees, he] using ha
    exact ⟨.sent [s.params.writeOpcode, s.expAddr, s.expData], framePhase_concat hp rfl, by simp [frameAgrees]⟩
  | spiDone2 _ he =>
    obtain rfl : p = .sent [s.params.writeOpcode, s.expAddr, s.expData] := by simpa [frameAgrees, he] using ha
    exact ⟨.closed, framePhase_concat hp rfl, by simp [frameAgrees]⟩
  | spiTimeout _ _ hb =>
    obtain ⟨q, hq, hhigh⟩ := frameNext_csDeassert_of_frameAgrees ha hb
    exact ⟨q, framePhase_concat hp hq, by simpa [frameAgrees] using hhigh⟩
  | reset =>
    refine ⟨.closed, ?_, by simp [frameAgrees]⟩
    cases hb : s.exp.busy with
    | false =>
      rw [hcs, hb]
      exact framePhase_concat hp (frameNext_reset (high_of_frameAgrees ha hb) _)
    | true =>
      rw [hcs, hb]
      obtain ⟨q, hq, hhigh⟩ := frameNext_csDeassert_of_frameAgrees ha hb
      exact framePhase_concat_two hp hq (frameNext_reset hhigh _)
  | _ => exact ⟨p, hp, ha⟩

theorem takeTurn_frameOrdered {s : State} (ho : FrameOrdered s) : FrameOrdered s.takeTurn := by
  rw [takeTurn_eq]
  exact ho

/-- Settles O16: a turn and a CLK edge touch neither the trace nor the frame, and every effect keeps the order. -/
theorem stepKeepsFrameOrder : Obligations.StepKeepsFrameOrder := by
  refine ⟨fun p => ⟨rfl, rfl⟩, fun s t p hs hp ha h => ?_⟩
  have hturn := takeTurn_frameOrdered ⟨p, hp, ha⟩
  have hcs : s.takeTurn.csN = !s.takeTurn.exp.busy := by simpa using csN_of_inv hs
  obtain ⟨i, hx⟩ | rfl | rfl := step_cases_of_inv hs h
  · exact effect_keeps_frameOrdered hx hcs hturn
  · exact hturn
  · exact hturn

/-! ## Reads -/

/-- A word with W = 0 reads the register of its field A (R81). -/
theorem readAddr_decode {w : HtWord} (h : wField w = false) : readAddr (decode w) = some (aField w) := by
  obtain ⟨b, a, d, rfl⟩ := exists_fields w
  obtain rfl : b = false := by simpa using h
  rcases address_cases a with rfl | rfl | rfl | rfl | rfl | rfl | rfl | rfl <;> simp [decode, readAddr]

theorem exec_of_readAddr {i : Instr} {a : Three} (h : readAddr i = some a) (s : State) :
    exec i s = .next { s with rdata := some (regRead s a) } :=
  exec_of_effect (.read i s a h)

/-- The answer on the bus is no part of what the host reads. -/
theorem regRead_rdata (s : State) (v : Option Word) (a : Three) : regRead { s with rdata := v } a = regRead s a := rfl

/-- Settles O24: both reads answer the value of register A, which the first one's answer leaves as it is. -/
theorem readsHaveNoSideEffect : Obligations.ReadsHaveNoSideEffect := by
  intro s w hw
  have hread := exec_of_readAddr (readAddr_decode hw)
  refine ⟨hread s, fun t u ht hu => ?_⟩
  rw [hread] at ht
  cases ht
  rw [hread, regRead_rdata] at hu
  cases hu
  rfl

/-! ## The poll of EXP_BUSY -/

theorem statusWord_bit_busy (s : State) : (statusWord s).getLsbD 10 = s.exp.busy := by
  simp only [statusWord, BitVec.getLsbD_append]
  simp

/-- The mask of the poll keeps bit 10 alone (R96). -/
theorem and_bit10_beq_zero (v : Word) : (v &&& 0x0400#16 == 0x0000#16) = !v.getLsbD 10 := by
  rw [show 0x0400#16 = BitVec.twoPow 16 10 by decide, BitVec.and_twoPow]
  cases v.getLsbD 10 <;> decide

theorem decode_rdStatus : decode (HostStmt.rd .status).word = .rdStatus := by
  simp [HostStmt.word, HostReg.addr, decode]

/-- Settles O59: the poll's mask picks EXP_BUSY out of the status word that the read answers. -/
theorem expwPollsUntilFrameEnds : Obligations.ExpwPollsUntilFrameEnds := by
  refine ⟨fun k a d => rfl, fun s => ⟨_, by rw [decode_rdStatus]; exact exec_of_readAddr rfl s, ?_⟩⟩
  calc (statusWord s &&& 0x0400#16 == 0x0000#16)
      = !(statusWord s).getLsbD 10 := and_bit10_beq_zero _
    _ = !s.exp.busy := by rw [statusWord_bit_busy]

/-! ## SAMP beside SPIX -/

/-- The steps that SAMP takes, or that its timer and its ADC bring to it (R3). -/
def isSampStep : Instr → Bool
  | .tce | .seqT1 | .seqT2 | .adcDone _ | .seqT4 | .adcTimeout => true
  | _ => false

/-- The steps of SPIX: the host's command, the shifter's report and the timeout (R3). -/
def isSpixStep : Instr → Bool
  | .wrExpcmd _ | .spiDone | .spiTimeout => true
  | _ => false

/-- `s` with all that a step of SPIX writes taken from `u`, but for the trace, which is `l`. -/
def State.withSpix (s u : State) (l : List TraceEvent) : State :=
  { s with
    exp := u.exp
    expAddr := u.expAddr
    expData := u.expData
    csN := u.csN
    errSpiTo := u.errSpiTo
    errProto := u.errProto
    spiWait := u.spiWait
    spiTx := u.spiTx
    trace := l }

section
variable {i : Instr} {s t : State}

theorem readAddr_of_samp (hi : isSampStep i = true) : readAddr i = none := by
  cases i with
  | tce | seqT1 | seqT2 | adcDone | seqT4 | adcTimeout => rfl
  | _ => cases hi

theorem readAddr_of_spix (hi : isSpixStep i = true) : readAddr i = none := by
  cases i with
  | wrExpcmd | spiDone | spiTimeout => rfl
  | _ => cases hi

/-- Whatever SPIX holds, the step does the same to the rest, and appends the same events of SAMP. -/
def IgnoresSpix (i : Instr) (s t : State) : Prop :=
  ∃ l : List TraceEvent, (∀ e ∈ l, e.ofSpix = false) ∧
    ∀ (u : State) (m : List TraceEvent), Effect i (s.withSpix u m) (t.withSpix u (m ++ l))

theorem ignoresSpix_of_silent (h : ∀ u m, Effect i (s.withSpix u m) (t.withSpix u m)) : IgnoresSpix i s t :=
  ⟨[], by simp, fun u m => by rw [List.append_nil]; exact h u m⟩

theorem ignoresSpix_of_emits {e : TraceEvent} (he : e.ofSpix = false)
    (h : ∀ u m, Effect i (s.withSpix u m) (t.withSpix u (m ++ [e]))) : IgnoresSpix i s t :=
  ⟨[e], by simpa using he, h⟩

/-- A step of SAMP reads and writes nothing of SPIX, so the same effect stands whatever SPIX holds. -/
theorem samp_effect_ignoresSpix (hi : isSampStep i = true) (h : Effect i s t) : IgnoresSpix i s t := by
  cases h with
  | read _ _ _ ha => simp [readAddr_of_samp hi] at ha
  | same _ _ hs =>
    refine ignoresSpix_of_silent fun u m => .same _ _ ?_
    cases i with
    | tce | seqT1 | seqT2 | adcDone | seqT4 | adcTimeout => exact hs
    | _ => cases hi
  | tceCount _ ha h0 h1 => exact ignoresSpix_of_silent fun u m => .tceCount (s.withSpix u m) ha h0 h1
  | tceExpire _ ha h1 => exact ignoresSpix_of_silent fun u m => .tceExpire (s.withSpix u m) ha h1
  | seqT1 _ hs ha hp => exact ignoresSpix_of_emits rfl fun u m => .seqT1 (s.withSpix u m) hs ha hp
  | seqT2 _ hs => exact ignoresSpix_of_emits rfl fun u m => .seqT2 (s.withSpix u m) hs
  | adcDoneActive _ v hs hm hist hh y hy =>
    exact ignoresSpix_of_emits rfl fun u m => .adcDoneActive (s.withSpix u m) v hs hm hist hh y hy
  | adcDoneOther _ v hs hm => exact ignoresSpix_of_emits rfl fun u m => .adcDoneOther (s.withSpix u m) v hs hm
  | seqT4 _ hs => exact ignoresSpix_of_emits rfl fun u m => .seqT4 (s.withSpix u m) hs
  | adcTimeout _ hb hs => exact ignoresSpix_of_silent fun u m => .adcTimeout (s.withSpix u m) hb hs
  | _ => cases hi

/-- A step of SPIX reads its own elements and the parameters, and writes its own elements. -/
theorem spix_effect_withSpix (hi : isSpixStep i = true) (h : Effect i s t) :
    ∃ l : List TraceEvent, (∀ e ∈ l, e.ofSpix = true) ∧
      ∀ (u : State) (m : List TraceEvent), u.params = s.params →
        Effect i (u.withSpix s m) (u.withSpix t (m ++ l)) := by
  cases h with
  | read _ _ _ ha => simp [readAddr_of_spix hi] at ha
  | same _ _ hs =>
    refine ⟨[], by simp, fun u m hu => ?_⟩
    rw [List.append_nil]
    refine .same _ _ ?_
    cases i with
    | wrExpcmd | spiDone => exact hs
    | spiTimeout => rw [Stays, ← hu] at hs; exact hs
    | _ => cases hi
  | wrExpcmdStart _ d he =>
    refine ⟨[.csAssert, .tx s.params.writeOpcode], by simp [TraceEvent.ofSpix], fun u m hu => ?_⟩
    rw [← hu]
    exact .wrExpcmdStart (u.withSpix s m) d he
  | wrExpcmdBusy _ d he =>
    refine ⟨[], by simp, fun u m _ => ?_⟩
    rw [List.append_nil]
    exact .wrExpcmdBusy (u.withSpix s m) d he
  | spiDone0 _ he =>
    refine ⟨[.tx s.expAddr], by simp [TraceEvent.ofSpix], fun u m hu => ?_⟩
    rw [← hu]
    exact .spiDone0 (u.withSpix s m) he
  | spiDone1 _ he =>
    refine ⟨[.tx s.expData], by simp [TraceEvent.ofSpix], fun u m hu => ?_⟩
    rw [← hu]
    exact .spiDone1 (u.withSpix s m) he
  | spiDone2 _ he =>
    exact ⟨[.csDeassert], by simp [TraceEvent.ofSpix], fun u m _ => .spiDone2 (u.withSpix s m) he⟩
  | spiTimeout _ hb he =>
    refine ⟨[.csDeassert], by simp [TraceEvent.ofSpix], fun u m hu => ?_⟩
    rw [← hu] at hb
    exact .spiTimeout (u.withSpix s m) hb he
  | _ => cases hi

end

/-- The square: SAMP's part and SPIX's part of the state are the same either way round, and the events of the two
steps stand in the order in which they were taken. -/
theorem samp_spix_square {a b : Instr} (ha : isSampStep a = true) (hb : isSpixStep b = true) (s : State) :
    ∃ (t u : State) (l m : List TraceEvent), (∀ e ∈ l, e.ofSpix = false) ∧ (∀ e ∈ m, e.ofSpix = true) ∧
      execAll [a, b] s = .next (t.withSpix u (s.trace ++ l ++ m)) ∧
      execAll [b, a] s = .next (t.withSpix u (s.trace ++ m ++ l)) := by
  obtain ⟨t, ht⟩ := exec_next a s
  obtain ⟨u, hu⟩ := exec_next b s
  have hparams : t.params = s.params := effect_params (exec_effect ht)
  obtain ⟨l, hl, hsamp⟩ := samp_effect_ignoresSpix ha (exec_effect ht)
  obtain ⟨m, hm, hspix⟩ := spix_effect_withSpix hb (exec_effect hu)
  have ht' : exec a s = .next (t.withSpix s (s.trace ++ l)) := exec_of_effect (hsamp s s.trace)
  have hu' : exec b s = .next (s.withSpix u (s.trace ++ m)) := exec_of_effect (hspix s s.trace rfl)
  refine ⟨t, u, l, m, hl, hm, ?_, ?_⟩
  · simp [execAll, ht', exec_of_effect (hspix t (s.trace ++ l) hparams)]
  · simp [execAll, hu', exec_of_effect (hsamp u (s.trace ++ m))]

/-- Settles O54: the two orders differ in the trace alone, and there in the place of SAMP's events among SPIX's. -/
theorem sampAndSpixAreIndependent : Obligations.SampAndSpixAreIndependent := by
  intro a b s t u ha hb hab hba
  have ha' : isSampStep a = true := by rcases ha with rfl | rfl | rfl | ⟨v, rfl⟩ | rfl | rfl <;> rfl
  have hb' : isSpixStep b = true := by rcases hb with ⟨d, rfl⟩ | rfl | rfl <;> rfl
  obtain ⟨x, y, l, m, hl, hm, hab', hba'⟩ := samp_spix_square ha' hb' s
  rw [hab'] at hab
  rw [hba'] at hba
  cases hab
  cases hba
  have hl_spix : l.filter TraceEvent.ofSpix = [] := by simpa using hl
  have hm_samp : m.filter (fun e => !e.ofSpix) = [] := by simpa using hm
  refine ⟨rfl, ?_, ?_⟩
  · simp [State.withSpix, hl_spix]
  · simp [State.withSpix, hm_samp]

end Sys2Proof.Machine
end

section
/-! PROOFS. The encoding of the host words (O1 to O4), the steps that never stop the block (O10), and the exact reads
and the write of the timer, the latches and the configuration (O21, O22, O23, O31). -/

namespace Sys2Proof.Machine

/-! ## The encoder and the decoder -/

/-- An instruction with a word is a host transaction, and the word's fields are its address and its operand (R81). -/
theorem decode_of_encode {i : Instr} {w : HtWord} (h : encode i = some w) : decode w = i := by
  cases i with
  | tce | seqT1 | seqT2 | adcDone | seqT4 | adcTimeout | spiDone | spiTimeout | reset => cases h
  | _ => cases h; simp [decode]

/-- The assembler's word keeps field D of a write alone (R82). -/
theorem canonicalWord_htWord (b : Bool) (a : Three) (d : Word) :
    canonicalWord (htWord b a d) = htWord b a (if b then d else 0) := by
  cases b <;> simp [canonicalWord, htWord_and_mask]

/-- Fields W and A choose the transaction, whose word has them again (R92). -/
theorem encode_decode (w : HtWord) : encode (decode w) = some (canonicalWord w) := by
  obtain ⟨b, a, d, rfl⟩ := exists_fields w
  rw [canonicalWord_htWord]
  cases b <;> rcases address_cases a with rfl | rfl | rfl | rfl | rfl | rfl | rfl | rfl <;> simp [decode, encode]

theorem encode_event (e : Event) : encode e.instr = none := by
  cases e <;> rfl

/-- The EVENT rows are the rows without a word (R94). -/
theorem encode_eq_none_iff (i : Instr) : encode i = none ↔ ∃ e : Event, e.instr = i := by
  refine ⟨fun h => ?_, fun ⟨e, he⟩ => he ▸ encode_event e⟩
  cases i with
  | tce => exact ⟨.tce, rfl⟩
  | seqT1 => exact ⟨.seqT1, rfl⟩
  | seqT2 => exact ⟨.seqT2, rfl⟩
  | adcDone v => exact ⟨.adcDone v, rfl⟩
  | seqT4 => exact ⟨.seqT4, rfl⟩
  | adcTimeout => exact ⟨.adcTimeout, rfl⟩
  | spiDone => exact ⟨.spiDone, rfl⟩
  | spiTimeout => exact ⟨.spiTimeout, rfl⟩
  | reset => exact ⟨.reset, rfl⟩
  | _ => cases h

/-- Settles O1: the round trip from the instruction and the one from the word, each on the three fields of a word. -/
theorem decodeInvertsEncode : Obligations.DecodeInvertsEncode :=
  ⟨fun _ _ => decode_of_encode, encode_decode, encode_eq_none_iff⟩

/-! ## The opcode map -/

/-- Every row's mask is that of fields W and A, so a row sees nothing of field D. -/
theorem matchesWord_htWord {r : Row} (hr : r ∈ rows) (b : Bool) (a : Three) (d : Word) :
    r.matchesWord (htWord b a d) = r.matchesWord (htWord b a 0) := by
  have hmask : ∀ r ∈ rows, r.mask = 0xF0000#20 := by decide
  simp [Row.matchesWord, hmask r hr, htWord_and_mask]

/-- A read takes no operand from its word (R82). -/
theorem decode_htWord_read (a : Three) (d e : Word) : decode (htWord false a d) = decode (htWord false a e) := by
  rcases address_cases a with rfl | rfl | rfl | rfl | rfl | rfl | rfl | rfl <;> simp [decode]

/-- Field D is an operand at most, and no part of the row (R81). -/
theorem decode_htWord_mnemonic (b : Bool) (a : Three) (d : Word) :
    (decode (htWord b a d)).mnemonic = (decode (htWord b a 0)).mnemonic := by
  cases b with
  | false => rw [decode_htWord_read a d 0]
  | true =>
    rcases address_cases a with rfl | rfl | rfl | rfl | rfl | rfl | rfl | rfl <;> simp [decode, Instr.mnemonic]

/-- Settles O2: neither the rows nor the mnemonic look at D, which leaves the 16 values of W and A. -/
theorem everyWordMatchesOneRow : Obligations.EveryWordMatchesOneRow := by
  intro w
  obtain ⟨b, a, d, rfl⟩ := exists_fields w
  rw [List.filter_congr fun r hr => matchesWord_htWord hr b a d, decode_htWord_mnemonic]
  revert b a
  decide

/-! ## The words of reads -/

/-- Settles O3: the decoder takes no field D where W is 0, and the assembler's fields of a read are W, A and 0. -/
theorem readsIgnoreFieldD : Obligations.ReadsIgnoreFieldD := by
  refine ⟨fun w v hw hv ha => ?_, fun r => by simp [HostStmt.word]⟩
  rw [← htWord_fields w, ← htWord_fields v, hw, hv, ha]
  exact decode_htWord_read _ _ _

/-- Settles O4: each word is evaluated by the decoder. -/
theorem writtenOutWordsDecode : Obligations.WrittenOutWordsDecode := by
  unfold Obligations.WrittenOutWordsDecode
  decide

/-! ## No step stops the block -/

/-- Settles O10: no meaning and no action stops, and `step` refuses illegal parameters alone. -/
theorem noStepStopsTheBlock : Obligations.NoStepStopsTheBlock :=
  ⟨exec_next, fun _ => step_next_of_legal⟩

/-! ## The answers of the reads -/

/-- A value that fits a width has no bit from the width up (R8). -/
theorem getLsbD_eq_false_of_le {n k : Nat} {v : Word} (hv : v.toNat ≤ 2 ^ n - 1) (hk : n ≤ k) :
    v.getLsbD k = false := by
  have hpos := Nat.two_pow_pos n
  have hlt : v.toNat < 2 ^ n := by omega
  exact Nat.testBit_lt_two_pow (hlt.trans_le (Nat.pow_le_pow_right (by decide) hk))

/-- Settles O21: both are reads of their register, and the invariants bound what it holds. -/
theorem rdReloadAndRdCountAnswerTimer : Obligations.RdReloadAndRdCountAnswerTimer :=
  ⟨decodesAs_of_htWord false 2 (by decide) (by simp [decode]),
    decodesAs_of_htWord false 3 (by decide) (by simp [decode]),
    fun s => ⟨exec_of_readAddr (a := 2) rfl s, exec_of_readAddr (a := 3) rfl s, fun hs _ hk =>
      ⟨getLsbD_eq_false_of_le hs.reloadFits hk, getLsbD_eq_false_of_le hs.countFits hk⟩⟩⟩

/-- Settles O22: a read of the latch, whose width the invariants bound. -/
theorem rdOutAnswersLatch : Obligations.RdOutAnswersLatch :=
  ⟨decodesAs_of_htWord false 4 (by decide) (by simp [decode]),
    fun s => ⟨exec_of_readAddr (a := 4) rfl s, fun hs _ hk => getLsbD_eq_false_of_le hs.outFits hk⟩⟩

theorem expcmdWord_addr (s : State) : (expcmdWord s).extractLsb' 8 8 = s.expAddr := by
  exact BitVec.extractLsb'_append_eq_left

theorem expcmdWord_data (s : State) : (expcmdWord s).extractLsb' 0 8 = s.expData := by
  exact BitVec.extractLsb'_append_eq_right

theorem cfgWord_toNat (s : State) : (cfgWord s).toNat = s.cfgNib.toNat :=
  BitVec.toNat_setWidth_of_le (by decide)

/-- Settles O23: three reads, with the fields of the word that the first two answer. -/
theorem rdExpcmdRdCfgRdRsv7Answer : Obligations.RdExpcmdRdCfgRdRsv7Answer :=
  ⟨decodesAs_of_htWord false 5 (by decide) (by simp [decode]),
    decodesAs_of_htWord false 6 (by decide) (by simp [decode]),
    decodesAs_of_htWord false 7 (by decide) (by simp [decode]),
    fun s => ⟨⟨expcmdWord s, exec_of_readAddr (a := 5) rfl s, expcmdWord_addr s, expcmdWord_data s⟩,
      ⟨cfgWord s, exec_of_readAddr (a := 6) rfl s, cfgWord_toNat s⟩, exec_of_readAddr (a := 7) rfl s⟩⟩

/-! ## The write of RELOAD -/

/-- Settles O31: the row's words carry the period in D, and the write has one effect. -/
theorem wrReloadStoresPeriod : Obligations.WrReloadStoresPeriod :=
  ⟨decodesAs_of_htWord true 2 (by decide) (by simp [decode]), fun s d => exec_of_effect (.wrReload s d)⟩

end Sys2Proof.Machine
end

section
/-! PROOFS. The host interface: ERR_PROTO against the host's duties (O52), the exact reads of CTRL and STATUS (O19, O20),
the ignored writes (O25), WR.CTRL where it does not configure (O28, O29), and WR.EXPCMD (O33). -/

namespace Sys2Proof.Machine

/-! ## The host's duties -/

theorem busy_eq_true_iff (e : ExpState) : e.busy = true ↔ e = .b0 ∨ e = .b1 ∨ e = .b2 := by
  cases e <;> decide

theorem configured_eq_true_iff (m : FMode) : m.configured = true ↔ m ≠ .uncfg := by
  cases m <;> decide

/-- A step that leaves the state as it is breaks no duty: a write of EXPCMD is ignored in FAULT alone, which is not busy
(R111). -/
theorem keepsDuty_of_stays {i : Instr} {s : State} (h : Stays i s) : keepsDuty s i = true := by
  cases i with
  | wrCtrl => exact h.elim
  | wrExpcmd =>
    have hf : s.exp = .fault := h
    simp [keepsDuty, hf, ExpState.busy]
  | _ => rfl

theorem keepsDuty_of_readAddr {i : Instr} {s : State} {a : Three} (h : readAddr i = some a) : keepsDuty s i = true := by
  cases i with
  | wrCtrl | wrExpcmd => cases h
  | _ => rfl

/-- A step of any agent but RESET sets ERR_PROTO exactly where it breaks a duty (R254). -/
theorem effect_errProto {i : Instr} {s t : State} (h : Effect i s t) (hi : i ≠ .reset) :
    t.errProto = (s.errProto || !keepsDuty s i) := by
  cases h with
  | read _ _ _ ha => simp [keepsDuty_of_readAddr ha]
  | same _ _ hs => simp [keepsDuty_of_stays hs]
  | wrCtrlConfigure _ d hm h1 => simp [keepsDuty, h1, hm, FMode.configured]
  | wrCtrlConfigured _ d hm => simp [keepsDuty, (configured_eq_true_iff _).2 hm]
  | wrCtrlRefused _ d hm h1 => simp [keepsDuty, h1, hm, FMode.configured]
  | wrExpcmdStart _ _ he => simp [keepsDuty, he, ExpState.busy]
  | wrExpcmdBusy _ _ he => simp [keepsDuty, he]
  | reset => exact absurd rfl hi
  | _ => simp [keepsDuty]

/-- Settles O52: a host word is no RESET. -/
theorem errProtoMarksBrokenDuty : Obligations.ErrProtoMarksBrokenDuty :=
  fun w _ _ h => effect_errProto (exec_effect h) (decode_ne_reset w)

/-! ## The read of CTRL -/

theorem ctrlWord_eq (s : State) : ctrlWord s = if s.arm then 0x0001#16 else 0x0000#16 := by
  unfold ctrlWord
  cases s.arm <;> decide

theorem exec_rdCtrl_eq (s : State) :
    exec .rdCtrl s = .next { s with rdata := some (if s.arm then 0x0001#16 else 0x0000#16) } := by
  rw [← ctrlWord_eq]
  exact exec_of_readAddr (a := 0) rfl s

/-- Settles O19: the read answers ARM, which the write of 0x0003 has set by its bit 0. -/
theorem rdCtrlAnswersArm : Obligations.RdCtrlAnswersArm := by
  refine ⟨decodesAs_of_htWord false 0 (by decide) (by simp [decode]), exec_rdCtrl_eq, fun s hm _ => ?_⟩
  have hconf := exec_wrCtrl_configures (d := 0x0003#16) hm (by decide)
  exact ⟨_, (execAll_cons hconf).trans (execAll_cons (exec_rdCtrl_eq _)), by simp⟩

/-! ## The read of STATUS -/

theorem statusWord_bit_configured (s : State) : (statusWord s).getLsbD 0 = s.fmode.configured := by
  simp only [statusWord, BitVec.getLsbD_append]
  simp

theorem statusWord_bit_active (s : State) : (statusWord s).getLsbD 1 = (s.fmode == .active) := by
  simp only [statusWord, BitVec.getLsbD_append]
  simp

theorem statusWord_depth (s : State) : (statusWord s).extractLsb' 2 3 = s.depth := by
  apply BitVec.eq_of_getLsbD_eq
  intro k hk
  simp only [statusWord, BitVec.getLsbD_extractLsb', BitVec.getLsbD_append]
  interval_cases k <;> simp

theorem statusWord_seq (s : State) : (statusWord s).extractLsb' 5 3 = s.seq.code := by
  apply BitVec.eq_of_getLsbD_eq
  intro k hk
  simp only [statusWord, BitVec.getLsbD_extractLsb', BitVec.getLsbD_append]
  interval_cases k <;> simp

theorem statusWord_bits_errors (s : State) :
    (statusWord s).getLsbD 11 = s.errOvr ∧ (statusWord s).getLsbD 12 = s.errAdcTo ∧
    (statusWord s).getLsbD 13 = s.errSpiTo ∧ (statusWord s).getLsbD 14 = s.errProto ∧
    (statusWord s).getLsbD 15 = false := by
  simp only [statusWord, BitVec.getLsbD_append]
  simp

/-- The states of SEQ have different codes (R30). -/
theorem seqCode_injective : Function.Injective SeqState.code := by
  intro q r
  cases q <;> cases r <;> decide

theorem statusWord_seq_iff (s : State) (q : SeqState) : (statusWord s).extractLsb' 5 3 = q.code ↔ s.seq = q := by
  rw [statusWord_seq, seqCode_injective.eq_iff]

/-- Settles O20: the word answered is the status word, whose fields are read off one by one. -/
theorem rdStatusAnswersFields : Obligations.RdStatusAnswersFields := by
  refine ⟨decodesAs_of_htWord false 1 (by decide) (by simp [decode]), fun s =>
    ⟨statusWord s, exec_of_readAddr (a := 1) rfl s, ?_, ?_, statusWord_depth s,
      statusWord_seq_iff s .idle, statusWord_seq_iff s .sampling, statusWord_seq_iff s .converting,
      statusWord_seq_iff s .done, statusWord_seq_iff s .fault,
      statusWord_bit_pending s, statusWord_bit_tick s, ?_, statusWord_bits_errors s⟩⟩
  · rw [statusWord_bit_configured, configured_eq_true_iff]
  · rw [statusWord_bit_active, beq_iff_eq]
  · rw [statusWord_bit_busy, busy_eq_true_iff]

/-! ## The writes -/

/-- Settles O25: the three rows' writes are among those that leave every state as it is. -/
theorem ignoredWritesChangeNothing : Obligations.IgnoredWritesChangeNothing :=
  ⟨decodesAs_of_htWord true 1 (by decide) (by simp [decode]),
    decodesAs_of_htWord true 6 (by decide) (by simp [decode]),
    decodesAs_of_htWord true 7 (by decide) (by simp [decode]),
    fun s d => ⟨exec_of_effect (.same (.wrStatus d) s trivial), exec_of_effect (.same (.wrCfg d) s trivial),
      exec_of_effect (.same (.wrRsv7 d) s trivial)⟩⟩

/-- Settles O28: one effect of WR.CTRL for every D. -/
theorem wrCtrlOnConfiguredBlock : Obligations.WrCtrlOnConfiguredBlock :=
  fun s d hm => exec_of_effect (.wrCtrlConfigured s d hm)

/-- Settles O29: one effect of WR.CTRL for both values of D[0]. -/
theorem wrCtrlOnUnconfiguredBlock : Obligations.WrCtrlOnUnconfiguredBlock :=
  fun s d hm h1 => exec_of_effect (.wrCtrlRefused s d hm h1)

/-- The wait counter is cleared only where the wait has a bound (R142). -/
theorem ite_isBounded (b : Timeout) (n : Nat) :
    (if isBounded b = true then 0 else n) = if b = .unbounded then n else 0 := by
  cases b <;> simp [isBounded]

/-- Settles O33: the three effects of WR.EXPCMD by the state of EXP. -/
theorem wrExpcmdStartsFrame : Obligations.WrExpcmdStartsFrame := by
  refine ⟨decodesAs_of_htWord true 5 (by decide) (by simp [decode]), fun s d => ⟨fun he => ?_, fun he => ?_, fun he => ?_⟩⟩
  · rw [← ite_isBounded]
    exact exec_of_effect (.wrExpcmdStart s d he)
  · exact exec_of_effect (.wrExpcmdBusy s d ((busy_eq_true_iff _).2 he))
  · exact exec_of_effect (.same (.wrExpcmd d) s he)

end Sys2Proof.Machine
end

section
/-! PROOFS. The expander: the steps that are not enabled (O11), the completion and the timeout of a byte (O34, O35), the
completions after a reset (O58), and the whole frame of an accepted write (O36). -/

namespace Sys2Proof.Machine

/-! ## Steps that are not enabled -/

theorem busy_eq_false_iff (e : ExpState) : e.busy = false ↔ e = .idle ∨ e = .fault := by
  cases e <;> decide

/-- A step changes nothing where it stays. -/
theorem exec_of_stays (i : Instr) {s : State} (h : Stays i s) : exec i s = .next s :=
  exec_of_effect (.same i s h)

/-- Settles O11: each failed guard is the step's case of `Stays`. -/
theorem stepNotEnabledChangesNothing : Obligations.StepNotEnabledChangesNothing := by
  refine fun s => ⟨exec_of_stays .seqT1, exec_of_stays .seqT2, exec_of_stays .seqT4,
    fun h => exec_of_stays .adcTimeout ?_, fun h => exec_of_stays .spiTimeout ?_⟩
  · rintro ⟨hb, hs⟩
    obtain hu | hne := h
    · simp [isBounded, hu] at hb
    · exact hne hs
  · rintro ⟨hb, he⟩
    obtain hu | hout := h
    · simp [isBounded, hu] at hb
    · simp [(busy_eq_false_iff _).2 hout] at he

/-! ## The end of a byte -/

/-- Settles O34: the three effects of SPI_DONE in a frame, and the two states in which it stays. -/
theorem spiDoneAdvancesFrame : Obligations.SpiDoneAdvancesFrame := by
  refine fun s => ⟨fun he => ?_, fun he => ?_, fun he => exec_of_effect (.spiDone2 s he),
    exec_of_stays .spiDone⟩
  · rw [← ite_isBounded]
    exact exec_of_effect (.spiDone0 s he)
  · rw [← ite_isBounded]
    exact exec_of_effect (.spiDone1 s he)

/-- Settles O35: the bound and the frame in flight are the guards of the one effect. -/
theorem spiTimeoutAbandonsFrame : Obligations.SpiTimeoutAbandonsFrame :=
  fun s n hn he => exec_of_effect (.spiTimeout s (by rw [hn]; rfl) ((busy_eq_true_iff _).2 he))

/-- A step that stays adds nothing to the step before it. -/
theorem execAll_pair_of_stays {i j : Instr} {s t : State} (hi : exec i s = .next t) (hj : Stays j t) :
    execAll [i, j] s = exec i s := by
  rw [execAll_cons hi, execAll_cons (exec_of_stays j hj), hi]
  rfl

/-- Settles O58: RESET leaves SEQ and EXP idle, where both completions stay. -/
theorem completionsAfterResetAreIgnored : Obligations.CompletionsAfterResetAreIgnored := by
  intro s v
  have hreset := exec_of_effect (.reset s)
  exact ⟨execAll_pair_of_stays hreset (by simp [Stays]), execAll_pair_of_stays hreset (.inl rfl)⟩

/-! ## A whole frame -/

/-- No list of steps stops the block (R297). -/
theorem execAll_next (is : List Instr) (s : State) : ∃ t, execAll is s = .next t := by
  induction is generalizing s with
  | nil => exact ⟨s, rfl⟩
  | cons i is ih =>
    obtain ⟨u, hu⟩ := exec_next i s
    rw [execAll_cons hu]
    exact ih u

/-- What a frame shows of SPIX: EXP, chip select, the frame latch and SPIX's events in the trace. -/
structure SpixView where
  exp : ExpState
  csN : Bool
  expAddr : Byte
  expData : Byte
  events : List TraceEvent

def State.spixView (s : State) : SpixView where
  exp := s.exp
  csN := s.csN
  expAddr := s.expAddr
  expData := s.expData
  events := s.trace.filter TraceEvent.ofSpix

/-- EXP after a number of completions in a frame (R143). -/
def expAfter : Nat → ExpState
  | 0 => .b0
  | 1 => .b1
  | 2 => .b2
  | _ => .idle

/-- The five events of an accepted write of `v` (R145). -/
def frameEvents (opcode : Byte) (v : Word) : List TraceEvent :=
  [.csAssert, .tx opcode, .tx (addrByte v), .tx (dataByte v), .csDeassert]

/-- SPIX in the frame of `v` after `k` completions, with the events of `past` before the frame: the start gives two
events and each completion one more. -/
def frameView (past : List TraceEvent) (opcode : Byte) (v : Word) (k : Nat) : SpixView where
  exp := expAfter k
  csN := !(expAfter k).busy
  expAddr := addrByte v
  expData := dataByte v
  events := past ++ (frameEvents opcode v).take (k + 2)

theorem expAfter_busy {k : Nat} (hk : k ≤ 2) : (expAfter k).busy = true := by
  interval_cases k <;> rfl

section
variable {i : Instr} {s t : State} {past : List TraceEvent} {opcode : Byte} {v : Word} {k : Nat}

/-- An event of SAMP does not show in the view of SPIX. -/
theorem spixView_emit_samp {e : TraceEvent} (he : e.ofSpix = false) : (s.emit e).spixView = s.spixView := by
  simp [State.spixView, he]

/-- While a frame is in flight, its completions, its timeout and RESET alone show in the view of SPIX (R111, R145). -/
theorem effect_keeps_spixView (h : Effect i s t) (hb : s.exp.busy = true) (hreset : i ≠ .reset)
    (htimeout : i ≠ .spiTimeout) (hdone : i ≠ .spiDone) : t.spixView = s.spixView := by
  cases h with
  | wrExpcmdStart _ _ he => simp [he, ExpState.busy] at hb
  | seqT1 | seqT2 | adcDoneActive | adcDoneOther | seqT4 => exact spixView_emit_samp rfl
  | spiDone0 | spiDone1 | spiDone2 => exact absurd rfl hdone
  | spiTimeout => exact absurd rfl htimeout
  | reset => exact absurd rfl hreset
  | _ => rfl

/-- An accepted write of EXPCMD starts the frame (R111, R141). -/
theorem effect_starts_frame (h : Effect (.wrExpcmd v) s t) (he : s.exp = .idle) :
    t.spixView = frameView (s.trace.filter TraceEvent.ofSpix) s.params.writeOpcode v 0 := by
  cases h with
  | read _ _ _ ha => cases ha
  | same _ _ hs => exact absurd (he.symm.trans hs) (by simp)
  | wrExpcmdStart => simp [State.spixView, frameView, expAfter, frameEvents, ExpState.busy, TraceEvent.ofSpix]
  | wrExpcmdBusy _ _ hb => simp [he, ExpState.busy] at hb

/-- A trace that shows the first `n` of some events shows one more with the next of them. -/
theorem filter_concat_eq_take {l es : List TraceEvent} {e : TraceEvent} {n : Nat}
    (hl : l.filter TraceEvent.ofSpix = past ++ es.take n) (hn : es[n]? = some e) (he : e.ofSpix = true) :
    (l ++ [e]).filter TraceEvent.ofSpix = past ++ es.take (n + 1) := by
  rw [List.filter_append, hl, List.take_add_one, hn]
  simp [he]

/-- Each completion in a frame shows the frame's next event (R143). -/
theorem effect_advances_frame (h : Effect .spiDone s t) (hs : s.spixView = frameView past opcode v k) (hk : k ≤ 2) :
    t.spixView = frameView past opcode v (k + 1) := by
  simp only [State.spixView, frameView, SpixView.mk.injEq] at hs ⊢
  obtain ⟨hexp, hcs, haddr, hdata, hevents⟩ := hs
  interval_cases k
  · rw [effect_unique h (.spiDone0 s hexp)]
    exact ⟨rfl, hcs, haddr, hdata, filter_concat_eq_take hevents (by rw [haddr]; rfl) rfl⟩
  · rw [effect_unique h (.spiDone1 s hexp)]
    exact ⟨rfl, hcs, haddr, hdata, filter_concat_eq_take hevents (by rw [hdata]; rfl) rfl⟩
  · rw [effect_unique h (.spiDone2 s hexp)]
    exact ⟨rfl, rfl, haddr, hdata, filter_concat_eq_take hevents rfl rfl⟩

/-- A run inside a frame, without RESET and SPI_TIMEOUT, advances it by the run's completions and by nothing else
(R145). -/
theorem execAll_advances_frame {is : List Instr} (his : ∀ i ∈ is, i ≠ .reset ∧ i ≠ .spiTimeout)
    (hs : s.spixView = frameView past opcode v k) (hk : k + is.count .spiDone ≤ 2) (h : execAll is s = .next t) :
    t.spixView = frameView past opcode v (k + is.count .spiDone) := by
  induction is generalizing s k with
  | nil => cases h; exact hs
  | cons i is ih =>
    obtain ⟨u, hu⟩ := exec_next i s
    rw [execAll_cons hu] at h
    obtain ⟨⟨hreset, htimeout⟩, htail⟩ := List.forall_mem_cons.1 his
    by_cases hdone : i = .spiDone
    · subst hdone
      rw [List.count_cons_self] at hk ⊢
      have hnext := effect_advances_frame (exec_effect hu) hs (by omega)
      rw [← Nat.add_assoc, Nat.add_right_comm]
      exact ih htail hnext (by omega) h
    · rw [List.count_cons_of_ne hdone] at hk ⊢
      have hexp : s.exp = expAfter k := congrArg SpixView.exp hs
      have hbusy : s.exp.busy = true := by rw [hexp]; exact expAfter_busy (by omega)
      have hkeep := effect_keeps_spixView (exec_effect hu) hbusy hreset htimeout hdone
      exact ih htail (hkeep.trans hs) hk h

end

/-- The latch of a write is the word written (R88). -/
theorem addrByte_append_dataByte (v : Word) : addrByte v ++ dataByte v = v :=
  (BitVec.extractLsb'_append_extractLsb'_eq_extractLsb' (x := v) (by decide)).trans BitVec.extractLsb'_eq_self

/-- Settles O36: the write starts the frame, the steps between advance it by two completions, and the last completion
ends it. -/
theorem acceptedWriteGivesWholeFrame : Obligations.AcceptedWriteGivesWholeFrame := by
  intro s t v is he his hcount h
  obtain ⟨a, ha⟩ := exec_next (.wrExpcmd v) s
  obtain ⟨b, hb⟩ := execAll_next is a
  obtain ⟨c, hc⟩ := exec_next .spiDone b
  have hrun : t = c := by
    rw [execAll_cons ha, execAll_append hb, execAll_cons hc] at h
    cases h
    rfl
  have hbytes := execAll_advances_frame his (effect_starts_frame (exec_effect ha) he) (by omega) hb
  have hframe := effect_advances_frame (exec_effect hc) hbytes (by omega)
  rw [hcount, ← hrun] at hframe
  simp only [State.spixView, frameView, SpixView.mk.injEq] at hframe
  obtain ⟨hexp, hcs, haddr, hdata, hevents⟩ := hframe
  exact ⟨hevents, hexp, hcs, by rw [haddr, hdata, addrByte_append_dataByte]⟩

end Sys2Proof.Machine
end

section
/-! PROOFS. The filter: configure works once (O30, O49), the circular history read as the source's shift register
(O47), the closed form of the returns (O46) and their bounds (O48). -/

namespace Sys2Proof.Machine

/-! ## Configure works once -/

/-- Settles O49: the four active nibbles, and `nibble_cases` for the others. -/
theorem nibbleSelectsDepth : Obligations.NibbleSelectsDepth := by
  refine ⟨rfl, rfl, rfl, rfl, rfl, rfl, rfl, rfl, fun n hn => ?_⟩
  obtain ⟨hlt, -⟩ | ⟨-, hother⟩ := nibble_cases n
  · exact absurd hlt (Nat.not_lt.2 hn)
  · exact hother

section
variable {i : Instr} {s t : State}

/-- What configure set stays until reset (R173). -/
theorem effect_keeps_configuration (h : Effect i s t) (hm : s.fmode ≠ .uncfg) (hi : i ≠ .reset) :
    t.fmode = s.fmode ∧ t.depth = s.depth ∧ t.cfgNib = s.cfgNib := by
  cases h with
  | wrCtrlConfigure _ _ hm' => exact absurd hm' hm
  | reset => exact absurd rfl hi
  | _ => exact ⟨rfl, rfl, rfl⟩

/-- On a configured block no effect but RESET's looks at CFG_IN or uses a draw of it (R173). -/
theorem effect_ignores_cfgIn (h : Effect i s t) (hm : s.fmode ≠ .uncfg) (hi : i ≠ .reset) (l : List Nibble)
    (k : Nat) :
    Effect i { s with cfgDraws := l, cfgDrawn := k } { t with cfgDraws := l, cfgDrawn := k } := by
  cases h with
  | read _ _ a ha => exact .read _ { s with cfgDraws := l, cfgDrawn := k } a ha
  | same _ _ hs => exact .same _ _ (by cases i <;> exact hs)
  | wrReload _ d => exact .wrReload _ d
  | wrCtrlConfigure _ _ hm' => exact absurd hm' hm
  | wrCtrlConfigured _ d => exact .wrCtrlConfigured _ d hm
  | wrCtrlRefused _ _ hm' => exact absurd hm' hm
  | wrExpcmdStart _ d he => exact .wrExpcmdStart _ d he
  | wrExpcmdBusy _ d he => exact .wrExpcmdBusy _ d he
  | tceCount _ ha h0 h1 => exact .tceCount _ ha h0 h1
  | tceExpire _ ha h1 => exact .tceExpire _ ha h1
  | seqT1 _ hs ha hp => exact .seqT1 _ hs ha hp
  | seqT2 _ hs => exact .seqT2 _ hs
  | adcDoneActive _ v hs hm hist hh y hy =>
    exact .adcDoneActive { s with cfgDraws := l, cfgDrawn := k } v hs hm hist hh y hy
  | adcDoneOther _ v hs hm => exact .adcDoneOther _ v hs hm
  | seqT4 _ hs => exact .seqT4 _ hs
  | adcTimeout _ hb hs => exact .adcTimeout _ hb hs
  | spiDone0 _ he => exact .spiDone0 _ he
  | spiDone1 _ he => exact .spiDone1 _ he
  | spiDone2 _ he => exact .spiDone2 _ he
  | spiTimeout _ hb he => exact .spiTimeout _ hb he
  | reset => exact absurd rfl hi

end

/-- Settles O30: the effects of a configured block, of which a later configure has the one of `wrCtrlConfigured`. -/
theorem configurationIsTakenOnce : Obligations.ConfigurationIsTakenOnce := by
  intro i s t hm hi hx
  have h := exec_effect hx
  refine ⟨effect_keeps_configuration h hm hi, ?_, fun l k => exec_of_effect (effect_ignores_cfgIn h hm hi l k)⟩
  rintro d rfl h1
  rw [effect_unique h (.wrCtrlConfigured s d hm)]
  exact ⟨by simp [configureBit, h1], rfl, rfl⟩

/-! ## The circular history as a shift register -/

/-- The filter stands in mode ACTIVE(d) with its write pointer inside the history (R174). -/
structure State.Averaging (s : State) : Prop where
  active : s.fmode = .active
  depth_pos : 0 < s.depth.toNat
  depth_le : s.depth.toNat ≤ 5
  wp_lt : s.wp.toNat < s.depth.toNat

theorem State.Inv.averaging {s : State} (hs : s.Inv) (hm : s.fmode = .active) : s.Averaging where
  active := hm
  depth_pos := Nat.zero_lt_of_lt (hs.activeWp hm)
  depth_le := (hs.activeDepth.1 hm).2
  wp_lt := hs.activeWp hm

/-- The d slots from the newest sample back: WP points at the oldest (R174). -/
def State.newestFirst (s : State) : List Word :=
  ((s.hist.toList.take s.depth.toNat).rotate s.wp.toNat).reverse

/-- Overwriting the oldest element of a circular list and moving on drops it and appends the new one. -/
theorem rotate_succ_set {α : Type} {l : List α} {n : Nat} (hn : n < l.length) (x : α) :
    (l.set n x).rotate (n + 1) = (l.rotate n).tail ++ [x] := by
  have hlen : (l.take n).length = n := List.length_take_of_le hn.le
  have hnew : (l.set n x).rotate (n + 1) = l.drop (n + 1) ++ (l.take n ++ [x]) := by
    have h := List.rotate_append_length_eq (l.take n ++ [x]) (l.drop (n + 1))
    rw [List.length_append, hlen, List.length_singleton] at h
    rw [List.set_eq_take_append_cons_drop, if_pos hn, ← h, List.append_assoc]
    rfl
  rw [hnew, List.rotate_eq_drop_append_take hn.le, List.drop_eq_getElem_cons hn, List.cons_append,
    List.tail_cons, List.append_assoc]

/-- Read newest first, dropping the oldest sample and appending one is the source's shift (R175). -/
theorem reverse_tail_concat {d : Nat} {l : List Word} (hd : 0 < d) (hl : l.length = d) (x : Word) :
    (l.tail ++ [x]).reverse = shiftIn d l.reverse x := by
  obtain ⟨y, ys, rfl⟩ := List.exists_cons_of_length_pos (hl ▸ hd)
  simp [shiftIn, ← hl]

section
variable {s : State}

theorem length_newestFirst (hs : s.Averaging) : s.newestFirst.length = s.depth.toNat := by
  simp [State.newestFirst, hs.depth_le]

/-- The order of the slots does not matter to their sum (R176). -/
theorem histSum_eq_newestFirst (s : State) :
    histSum s.hist s.depth.toNat = (s.newestFirst.map BitVec.toNat).sum := by
  have hperm : s.newestFirst.Perm (s.hist.toList.take s.depth.toNat) :=
    (List.reverse_perm _).trans (List.rotate_perm _ _)
  exact ((hperm.map BitVec.toNat).sum_eq).symm

theorem update_of_active (hm : s.fmode = .active) (raw : Word) : update s raw =
    ({ s with
      hist := s.hist.setIfInBounds s.wp.toNat raw
      wp := BitVec.ofNat 3 ((s.wp.toNat + 1) % s.depth.toNat) },
     histSum (s.hist.setIfInBounds s.wp.toNat raw) s.depth.toNat / s.depth.toNat) := by
  obtain ⟨-, e⟩ | ⟨hne, -⟩ := update_cases s raw
  · exact e
  · exact absurd hm hne

/-- The advanced pointer, as a number. -/
theorem advanced_wp_toNat (hs : s.Averaging) :
    (BitVec.ofNat 3 ((s.wp.toNat + 1) % s.depth.toNat)).toNat = (s.wp.toNat + 1) % s.depth.toNat := by
  have hlt := Nat.mod_lt (s.wp.toNat + 1) hs.depth_pos
  have hle := hs.depth_le
  rw [BitVec.toNat_ofNat, Nat.mod_eq_of_lt (by omega)]

@[simp] theorem update_depth (s : State) (raw : Word) : (update s raw).1.depth = s.depth := by
  obtain ⟨-, e⟩ | ⟨-, e⟩ := update_cases s raw <;> rw [e]

theorem update_averaging (hs : s.Averaging) (raw : Word) : (update s raw).1.Averaging := by
  rw [update_of_active hs.active]
  exact { hs with wp_lt := advanced_wp_lt _ _ hs.depth_pos }

/-- An update prepends the sample and drops the oldest one (R175). -/
theorem newestFirst_update (hs : s.Averaging) (raw : Word) :
    (update s raw).1.newestFirst = shiftIn s.depth.toNat s.newestFirst raw := by
  have hlen : (s.hist.toList.take s.depth.toNat).length = s.depth.toNat := by simp [hs.depth_le]
  have hset := rotate_succ_set (hlen.symm ▸ hs.wp_lt) raw
  rw [← List.rotate_mod, List.length_set, hlen] at hset
  rw [update_of_active hs.active]
  simp only [State.newestFirst, advanced_wp_toNat hs, Vector.toList_setIfInBounds, List.take_set, hset]
  exact reverse_tail_concat hs.depth_pos (by rw [List.length_rotate, hlen]) raw

/-- An update returns the average of the history after it (R176). -/
theorem update_return (hs : s.Averaging) (raw : Word) :
    (update s raw).2 = ((shiftIn s.depth.toNat s.newestFirst raw).map BitVec.toNat).sum / s.depth.toNat := by
  rw [← newestFirst_update hs, ← update_depth s raw, ← histSum_eq_newestFirst, update_of_active hs.active]

/-- The circular buffer refines the shift register (R174 to R176). -/
theorem updateAll_returns (hs : s.Averaging) (samples : List Word) :
    (updateAll s samples).2 = shiftAll s.depth.toNat s.newestFirst samples := by
  induction samples generalizing s with
  | nil => rfl
  | cons x xs ih =>
    have htail := ih (update_averaging hs x)
    rw [newestFirst_update hs, update_depth] at htail
    simp only [updateAll, shiftAll, update_return hs, htail]

/-- The newest sample stands just before WP, so the slot `d - 1 - j` places after WP holds the one of age `j`. -/
theorem age_of_slot {d j wp : Nat} (hj : j < d) (hwp : wp < d) :
    (wp + d - 1 - (d - 1 - j + wp) % d) % d = j := by
  obtain hlt | hge := Nat.lt_or_ge (d - 1 - j + wp) d
  · rw [Nat.mod_eq_of_lt hlt, show wp + d - 1 - (d - 1 - j + wp) = j by omega, Nat.mod_eq_of_lt hj]
  · rw [Nat.mod_eq_sub_mod hge, Nat.mod_eq_of_lt (a := d - 1 - j + wp - d) (by omega),
      show wp + d - 1 - (d - 1 - j + wp - d) = j + d by omega, Nat.add_mod_right, Nat.mod_eq_of_lt hj]

/-- A history that holds each slot at its age is the one read back from WP. -/
theorem eq_newestFirst {history : List Word} (hs : s.Averaging) (hlen : history.length = s.depth.toNat)
    (hslots : ∀ k, (h : k < 5) → k < s.depth.toNat →
      history[(s.wp.toNat + s.depth.toNat - 1 - k) % s.depth.toNat]? = some s.hist[k]) :
    history = s.newestFirst := by
  refine List.ext_getElem (hlen.trans (length_newestFirst hs).symm) fun j hj _ => ?_
  have hd := hs.depth_le
  rw [hlen] at hj
  have hk := Nat.mod_lt (s.depth.toNat - 1 - j + s.wp.toNat) hs.depth_pos
  have hslot := hslots _ (by omega) hk
  rw [age_of_slot hj hs.wp_lt, List.getElem?_eq_getElem (hlen ▸ hj), Option.some_inj] at hslot
  simp [State.newestFirst, List.getElem_rotate, hd, hslot]

end

/-- Settles O47: the given history is the one read back from WP. -/
theorem circularBufferRefinesShiftRegister : Obligations.CircularBufferRefinesShiftRegister := by
  intro s history samples hm hlo hhi hwp hlen hslots
  have hs : s.Averaging := ⟨hm, by omega, hhi, hwp⟩
  rw [updateAll_returns hs, eq_newestFirst hs hlen hslots]

/-! ## The closed form -/

/-- The source's filter from any history returns the average of the last d of the samples and the history (R175). -/
theorem shiftAll_eq_map (d : Nat) (history samples : List Word) : shiftAll d history samples =
    (List.range samples.length).map fun k =>
      ((((samples.take (k + 1)).reverse ++ history).take d).map BitVec.toNat).sum / d := by
  induction samples generalizing history with
  | nil => rfl
  | cons x xs ih =>
    have htake (l : List Word) : (l ++ shiftIn d history x).take d = (l ++ x :: history).take d := by
      simp [shiftIn, List.take_append, List.take_take]
    simp only [shiftAll, ih, htake, List.length_cons, List.range_succ_eq_map, List.map_cons, List.map_map]
    simp [Function.comp_def, shiftIn]

/-- Samples before the first count as 0 (R181, R182). -/
theorem sum_take_append_zeros (d n : Nat) (l : List Word) :
    (((l ++ List.replicate n 0).take d).map BitVec.toNat).sum = ((l.take d).map BitVec.toNat).sum := by
  simp [List.take_append]

/-- From a history of zeros the source's filter has the closed form of R182. -/
theorem shiftAll_zeros (d n : Nat) (samples : List Word) : shiftAll d (List.replicate n 0) samples =
    (List.range samples.length).map fun k => closedForm d (samples.take (k + 1)) := by
  simp only [shiftAll_eq_map, sum_take_append_zeros, closedForm]

theorem newestFirst_of_zeros {s : State} (hh : s.hist = Vector.replicate 5 0) :
    s.newestFirst = List.replicate (min s.depth.toNat 5) 0 := by
  rw [State.newestFirst, hh, Vector.toList_replicate, List.take_replicate, List.rotate_replicate,
    List.reverse_replicate]

/-- Configure with one of the four active nibbles (R171, R172). -/
theorem configure_of_active {s : State} (hm : s.fmode = .uncfg) (hn : s.cfgIn.toNat < 4) :
    (configure s).Averaging ∧ (configure s).depth.toNat = s.cfgIn.toNat + 2 ∧
      (configure s).hist = Vector.replicate 5 0 := by
  obtain ⟨-, hactive, hdepth⟩ | ⟨hge, -⟩ := nibble_cases s.cfgIn
  · obtain ⟨-, e⟩ | ⟨hne, -⟩ := configure_cases s
    · rw [e]
      exact ⟨⟨hactive, by simp [hdepth], by simp only [hdepth]; omega, by simp [hdepth]⟩, hdepth, rfl⟩
    · exact absurd hm hne
  · omega

/-- Settles O46: the shift register from the zeros that configure leaves. -/
theorem filterReturnsClosedForm : Obligations.FilterReturnsClosedForm := by
  intro s samples hm hn
  obtain ⟨hs, hdepth, hzeros⟩ := configure_of_active hm hn
  rw [updateAll_returns hs, newestFirst_of_zeros hzeros, shiftAll_zeros, hdepth]

/-! ## Bounds -/

/-- d slots of values up to a bound sum up to at most d times it. -/
theorem histSum_le {hist : Vector Word 5} {b : Nat} (hh : ∀ x ∈ hist.toList, x.toNat ≤ b) (d : Nat) :
    histSum hist d ≤ d * b := by
  have hsum := List.sum_le_card_nsmul ((hist.toList.take d).map BitVec.toNat) b
    (List.forall_mem_map.2 fun x hx => hh x (List.mem_of_mem_take hx))
  refine hsum.trans ?_
  simp only [smul_eq_mul, List.length_map]
  exact Nat.mul_le_mul_right b (List.length_take_le d _)

/-- An update leaves slots that fit W_S bits (R179). -/
theorem update_histFits {s : State} {raw : Word} (hs : s.Inv) (hr : raw.toNat ≤ 2 ^ s.params.wS - 1) :
    ∀ x ∈ (update s raw).1.hist.toList, x.toNat ≤ 2 ^ s.params.wS - 1 := by
  obtain ⟨-, e⟩ | ⟨-, e⟩ := update_cases s raw <;> rw [e]
  · exact forall_mem_setIfInBounds _ hs.histFits hr
  · exact hs.histFits

/-- In every mode the value returned is at most the sum of the slots divided by d. -/
theorem update_return_le (s : State) (raw : Word) :
    (update s raw).2 ≤ histSum (update s raw).1.hist s.depth.toNat / s.depth.toNat := by
  obtain ⟨-, e⟩ | ⟨-, e⟩ := update_cases s raw
  · simp only [e, le_refl]
  · simp only [e, Nat.zero_le]

theorem depth_le_of_inv {s : State} (hs : s.Inv) : s.depth.toNat ≤ 5 := by
  by_cases hm : s.fmode = .active
  · exact (hs.activeDepth.1 hm).2
  · simp [hs.otherDepth.1 hm]

/-- Settles O48: the bound on the slots gives the one on the sum, and this the one on the value returned. -/
theorem filterValueFitsLatch : Obligations.FilterValueFitsLatch := by
  intro s raw hs hr
  have hpow := Nat.two_pow_pos s.params.wS
  have hsum := histSum_le (update_histFits hs hr) s.depth.toNat
  have hvalue : (update s raw).2 ≤ 2 ^ s.params.wS - 1 :=
    (update_return_le s raw).trans (Nat.div_le_of_le_mul hsum)
  refine ⟨hvalue, hsum, ?_, fun hw => ?_⟩
  · have hmul := Nat.mul_le_mul_right (2 ^ s.params.wS - 1) (depth_le_of_inv hs)
    rw [Nat.pow_add]
    omega
  · obtain ⟨-, -, -, hout, -⟩ := (paramsLegal_iff _).1 hs.legal
    have hle := Nat.pow_le_pow_right Nat.two_pos hw
    exact truncTo_of_lt _ _ hout (by omega)

end Sys2Proof.Machine
end

section
/-! PROOFS. The sampler: ADC_DONE filters and latches (O40), and a whole run latches the running average (O45). -/

namespace Sys2Proof.Machine

/-! ## ADC_DONE -/

/-- A value narrowed to a width, in a 16-bit word (R8). -/
theorem truncTo_toNat_min (w v : Nat) : (truncTo w v).toNat = v % 2 ^ min w 16 := by
  obtain hw | hw := Nat.le_total w 16
  · rw [min_eq_left hw, truncTo_toNat_of_le w v hw]
  · rw [truncTo_toNat, min_eq_right hw, Nat.mod_mod_of_dvd _ (Nat.pow_dvd_pow 2 hw)]

/-- The sum of the first d slots, slot by slot (R176). -/
theorem histSum_eq_sum (hist : Vector Word 5) (d : Nat) :
    histSum hist d = ∑ k : Fin 5, if k.val < d then hist[k.val].toNat else 0 := by
  have hlist : hist.toList.map BitVec.toNat = List.ofFn fun k : Fin 5 => hist[k.val].toNat := by
    rw [← Vector.toList_ofFn, ← Vector.toList_map]
    congr 1
    ext k hk
    rw [Vector.getElem_map, Vector.getElem_ofFn]
  rw [histSum, List.map_take, hlist, List.sum_take_ofFn, Finset.sum_filter]

/-- Settles O40: the effects of ADC_DONE in CONVERTING by the mode, and the states in which it stays. -/
theorem adcDoneFiltersAndLatches : Obligations.AdcDoneFiltersAndLatches := by
  refine fun s v => ⟨fun hs hm _ _ => ?_, fun hs hm => exec_of_effect (.adcDoneOther s v hs hm),
    exec_of_stays (.adcDone v)⟩
  refine ⟨_, _, exec_of_effect (.adcDoneActive s v hs hm _ rfl _ rfl), fun k hk => ?_, ?_⟩
  · rw [Vector.getElem_setIfInBounds hk, ← truncTo_toNat_min]
    by_cases hwp : s.wp.toNat = k
    · simp [hwp, sampleValue]
    · simp [hwp, Ne.symm hwp]
  · rw [latchValue, truncTo_toNat_min, histSum_eq_sum]

/-! ## A whole run of the sampler -/

/-- Between two ticks of a run: the filter averages, SEQ is idle, and an armed COUNT is full with nothing pending. -/
structure State.BetweenTicks (s : State) : Prop where
  averaging : s.Averaging
  idle : s.seq = .idle
  armed : s.arm = true
  calm : s.pending = false
  running : s.reload ≠ 0
  full : s.count = s.reload

/-- The state after a countdown that expires with nothing pending (R201). -/
def State.expired (s : State) : State := { s with count := 0, pending := true }

/-- The value that ADC_DONE(v) latches (R205, R208). -/
def State.latched (s : State) (v : Word) : Word := latchValue s.params (update s (sampleValue s.params v)).2

/-- The state after the four steps of a tick with the sample `v` (R202 to R206). -/
def State.afterTick (s : State) (v : Word) : State :=
  { s with
    hist := (update s (sampleValue s.params v)).1.hist
    wp := (update s (sampleValue s.params v)).1.wp
    count := s.reload
    pending := false
    seq := .idle
    tick := false
    outLatch := s.latched v
    trace := s.trace ++ tickEvents (s.latched v)
    adcStart := true
    adcWait := if isBounded s.params.adcTimeout then 0 else s.adcWait }

section
variable {s : State}

/-- An armed COUNT of n with nothing pending expires at the n-th pulse (R200, R201). -/
theorem execAll_countdown {n : Nat} (ha : s.arm = true) (hp : s.pending = false) (hc : s.count.toNat = n + 1) :
    execAll (List.replicate (n + 1) .tce) s = .next s.expired := by
  induction n generalizing s with
  | zero =>
    have h1 : s.count = 1 := BitVec.eq_of_toNat_eq hc
    rw [List.replicate_succ, execAll_cons (exec_of_effect (.tceExpire s ha h1))]
    simp [execAll, State.expired, hp]
  | succ n ih =>
    have h0 : s.count ≠ 0 := fun h => by simp [h] at hc
    have h1 : s.count ≠ 1 := fun h => by simp [h] at hc
    rw [List.replicate_succ, execAll_cons (exec_of_effect (.tceCount s ha h0 h1))]
    exact ih ha hp (by bv_omega)

/-- A tick that is due, taken with the sample `v` (R202 to R206). -/
theorem execAll_tick (hs : s.Averaging) (hi : s.seq = .idle) (ha : s.arm = true) (hp : s.pending = true) (v : Word) :
    execAll [.seqT1, .seqT2, .adcDone v, .seqT4] s = .next (s.afterTick v) := by
  rw [execAll_cons (exec_of_effect (.seqT1 s hi ha hp)), execAll_cons (exec_of_effect (.seqT2 _ rfl)),
    execAll_cons (exec_of_effect (.adcDoneActive _ v rfl ?_ _ rfl _ rfl)),
    execAll_cons (exec_of_effect (.seqT4 _ rfl))]
  · simp [execAll, State.afterTick, State.latched, tickEvents, update_of_active hs.active]
  · exact hs.active

/-- A tick adds its sample to the history (R175). -/
theorem newestFirst_afterTick (hs : s.Averaging) (v : Word) :
    (s.afterTick v).newestFirst = shiftIn s.depth.toNat s.newestFirst (sampleValue s.params v) := by
  rw [← newestFirst_update hs, State.newestFirst, State.newestFirst, update_depth]
  rfl

theorem afterTick_averaging (hs : s.Averaging) (v : Word) : (s.afterTick v).Averaging := by
  have hwp := (update_averaging hs (sampleValue s.params v)).wp_lt
  rw [update_depth] at hwp
  exact { hs with wp_lt := hwp }

theorem expired_averaging (hs : s.Averaging) : s.expired.Averaging := { hs with }

/-- One period of a run: the countdown, and then the tick (R201, R213). -/
theorem execAll_periodSteps (hs : s.BetweenTicks) (v : Word) :
    execAll (periodSteps s.reload.toNat v) s = .next (s.expired.afterTick v) := by
  obtain ⟨n, hn⟩ := Nat.exists_eq_succ_of_ne_zero fun h => hs.running (BitVec.eq_of_toNat_eq h)
  rw [periodSteps, hn, execAll_append (execAll_countdown hs.armed hs.calm (hs.full ▸ hn))]
  exact execAll_tick (expired_averaging hs.averaging) hs.idle hs.armed rfl v

theorem period_betweenTicks (hs : s.BetweenTicks) (v : Word) : (s.expired.afterTick v).BetweenTicks where
  averaging := afterTick_averaging (expired_averaging hs.averaging) v
  idle := rfl
  armed := hs.armed
  calm := rfl
  running := hs.running
  full := rfl

/-- The run that a list of samples gives: each period latches the return of the source's filter (R212, R213). -/
theorem execAll_periods (hs : s.BetweenTicks) {samples : List Word}
    (hfit : ∀ x ∈ samples, sampleValue s.params x = x) :
    ∃ t, execAll (samples.flatMap (periodSteps s.reload.toNat)) s = .next t ∧
      t.trace = s.trace ++ (shiftAll s.depth.toNat s.newestFirst samples).flatMap
        (fun y => tickEvents (latchValue s.params y)) ∧
      t.BetweenTicks ∧ t.reload = s.reload ∧ t.errOvr = s.errOvr := by
  induction samples generalizing s with
  | nil => exact ⟨s, rfl, by simp [shiftAll], hs, rfl, rfl⟩
  | cons x xs ih =>
    obtain ⟨hx, hxs⟩ := List.forall_mem_cons.1 hfit
    replace hx : sampleValue s.expired.params x = x := hx
    have hexpired := expired_averaging hs.averaging
    obtain ⟨t, hrun, htrace, ht, hreload, herr⟩ := ih (period_betweenTicks hs x) hxs
    refine ⟨t, ?_, ?_, ht, hreload, herr⟩
    · rw [List.flatMap_cons, execAll_append (execAll_periodSteps hs x)]
      exact hrun
    · have hlatched : s.expired.latched x = latchValue s.params
          (((shiftIn s.depth.toNat s.newestFirst x).map BitVec.toNat).sum / s.depth.toNat) := by
        rw [State.latched, hx, update_return hexpired]
        rfl
      have hhistory : (s.expired.afterTick x).newestFirst = shiftIn s.depth.toNat s.newestFirst x := by
        rw [newestFirst_afterTick hexpired, hx]
        rfl
      rw [htrace, hhistory, shiftAll, List.flatMap_cons, ← hlatched, ← List.append_assoc]
      rfl

end

/-- Settles O45: the run of the samples from a history of zeros, whose returns have the closed form. -/
theorem everyPeriodLatchesTheAverage : Obligations.EveryPeriodLatchesTheAverage := by
  intro s samples hs hm hzeros hidle harm hcalm hrunning hfull hfit
  obtain ⟨-, hwidth, -⟩ := (paramsLegal_iff _).1 hs.legal
  have hready : s.BetweenTicks := ⟨hs.averaging hm, hidle, harm, hcalm, hrunning, hfull⟩
  obtain ⟨t, hrun, htrace, ht, hreload, herr⟩ := execAll_periods hready (samples := samples)
    fun x hx => BitVec.eq_of_toNat_eq (truncTo_of_lt _ _ hwidth (hfit x hx))
  rw [newestFirst_of_zeros hzeros, shiftAll_zeros, List.flatMap_map] at htrace
  exact ⟨t, hrun, htrace, ht.idle, ht.calm, ht.full.trans hreload, herr⟩

end Sys2Proof.Machine
end

section
/-! PROOFS. The sampler's steps one by one (O37, O38, O39, O41, O42), the latest reload (O32), the start and the end of a
tick (O43), RELOAD = 0 (O44), and the sampler's share of the errors: who raises one (O51) and what a fault state keeps
(O53). -/

namespace Sys2Proof.Machine

/-! ## The steps of the sampler -/

/-- What TCE leaves of a COUNT above 1, as a number (R200). -/
theorem sub_one_eq_ofNat {c : Word} (hc : 1 < c.toNat) : c - 1 = BitVec.ofNat 16 (c.toNat - 1) := by
  bv_omega

/-- Settles O37: the two effects of TCE by COUNT, and the two cases in which it stays. -/
theorem tceCountsDownAndExpires : Obligations.TceCountsDownAndExpires := by
  refine fun s => ⟨fun ha hc => ?_, fun ha hc => ?_, fun h => exec_of_stays .tce ?_⟩
  · have h0 : s.count ≠ 0 := fun h => by simp [h] at hc
    have h1 : s.count ≠ 1 := fun h => by simp [h] at hc
    rw [← sub_one_eq_ofNat hc]
    exact exec_of_effect (.tceCount s ha h0 h1)
  · exact exec_of_effect (.tceExpire s ha (BitVec.eq_of_toNat_eq hc))
  · exact h.imp_right fun hc => BitVec.eq_of_toNat_eq hc

/-- Settles O38: the guards of T1's one effect. -/
theorem seqT1BeginsTick : Obligations.SeqT1BeginsTick :=
  fun s hs ha hp => exec_of_effect (.seqT1 s hs ha hp)

/-- Settles O39: T2's one effect, whose wait counter is cleared where the wait has a bound. -/
theorem seqT2StartsConversion : Obligations.SeqT2StartsConversion := by
  intro s hs
  rw [← ite_isBounded]
  exact exec_of_effect (.seqT2 s hs)

/-- Settles O41: the guard of T4's one effect. -/
theorem seqT4EndsTick : Obligations.SeqT4EndsTick :=
  fun s hs => exec_of_effect (.seqT4 s hs)

/-- Settles O42: the bound and the wait are the guards of the one effect. -/
theorem adcTimeoutEntersFault : Obligations.AdcTimeoutEntersFault :=
  fun s n hn hs => exec_of_effect (.adcTimeout s (by rw [hn]; rfl) hs)

/-! ## The latest reload -/

/-- What every step of a run keeps, the run keeps. -/
theorem execAll_keeps {P : State → Prop} {is : List Instr} {s t : State}
    (hstep : ∀ i ∈ is, ∀ u v, Effect i u v → P u → P v) (h : execAll is s = .next t) (hs : P s) : P t := by
  induction is generalizing s with
  | nil => cases h; exact hs
  | cons i is ih =>
    obtain ⟨hi, his⟩ := List.forall_mem_cons.1 hstep
    obtain ⟨u, hu⟩ := exec_next i s
    rw [execAll_cons hu] at h
    exact ih his h (hi s u (exec_effect hu) hs)

/-- Without a reset and a write of RELOAD a run leaves RELOAD (R27). -/
theorem execAll_keeps_reload {is : List Instr} {s t : State} (his : ∀ i ∈ is, i ≠ .reset ∧ ∀ d, i ≠ .wrReload d)
    (h : execAll is s = .next t) : t.reload = s.reload := by
  refine execAll_keeps (P := fun u => u.reload = s.reload) (fun i hi u v hx hu => ?_) h rfl
  obtain ⟨hreset, hwrite⟩ := his i hi
  by_contra hv
  obtain ⟨d, hd⟩ := effect_reload_writer hx hreset (fun heq => hv (heq.trans hu))
  exact hwrite d hd

/-- Arming a disarmed, configured block loads COUNT (R209). -/
theorem exec_wrCtrl_arms {s : State} {d : Word} (hm : s.fmode ≠ .uncfg) (ha : s.arm = false)
    (hd : d.getLsbD 0 = true) : exec (.wrCtrl d) s =
      .next { s with errProto := s.errProto || configureBit d, arm := true, count := s.reload } := by
  have harm : armBit d = true := hd
  rw [exec_of_effect (.wrCtrlConfigured s d hm), harm, ha]
  rfl

/-- Settles O32: the write sets RELOAD alone, the steps after it keep it, and the two loads copy it to COUNT. -/
theorem latestReloadWins : Obligations.LatestReloadWins := by
  intro s
  refine ⟨fun a is t his h => ?_, fun a t h => ?_, fun t hs ha hp h => ?_, fun d t hm ha hd h => ?_⟩
  · rw [execAll_cons (exec_of_effect (.wrReload s a))] at h
    exact execAll_keeps_reload his h
  · rw [effect_unique (exec_effect h) (.wrReload s a)]
  · rw [effect_unique (exec_effect h) (.seqT1 s hs ha hp)]
  · rw [exec_wrCtrl_arms hm ha hd] at h
    cases h
    rfl

/-! ## The start and the end of a tick -/

section
variable {i : Instr} {s t : State}

/-- Who brings SEQ to SAMPLING (R202). -/
theorem effect_enters_sampling (h : Effect i s t) (hs : s.seq ≠ .sampling) (ht : t.seq = .sampling) :
    i = .seqT1 ∧ s.seq = .idle ∧ s.arm = true ∧ s.pending = true := by
  cases h with
  | seqT1 _ hidle ha hp => exact ⟨rfl, hidle, ha, hp⟩
  | seqT2 | adcDoneActive | adcDoneOther | seqT4 | adcTimeout | reset => cases ht
  | _ => exact absurd ht hs

/-- Who brings SEQ back to IDLE (R206, R280). -/
theorem effect_returns_to_idle (h : Effect i s t) (hs : s.seq ≠ .idle) (ht : t.seq = .idle) :
    i = .seqT4 ∧ s.seq = .done ∨ i = .reset := by
  cases h with
  | seqT4 _ hdone => exact .inl ⟨rfl, hdone⟩
  | reset => exact .inr rfl
  | seqT1 | seqT2 | adcDoneActive | adcDoneOther | adcTimeout => cases ht
  | _ => exact absurd ht hs

end

/-- Settles O43: the one effect that enters SAMPLING, and the two that return to IDLE. -/
theorem ticksDoNotNest : Obligations.TicksDoNotNest :=
  fun _ _ _ h => ⟨effect_enters_sampling (exec_effect h), effect_returns_to_idle (exec_effect h)⟩

/-! ## RELOAD = 0 -/

/-- The sampler at rest with a period of 0: nothing to count, nothing pending, no tick in progress (R214). -/
structure State.Dormant (s : State) : Prop where
  reload : s.reload = 0
  count : s.count = 0
  calm : s.pending = false
  idle : s.seq = .idle

/-- A dormant sampler stays so, and raises no ERR_OVR: an arm loads 0, TCE holds at 0, and every step of a tick needs
PENDING or a tick in progress (R200, R202, R209). -/
theorem effect_keeps_dormant {i : Instr} {s t : State} (h : Effect i s t) (hi : ∀ d, i ≠ .wrReload d)
    (hs : s.Dormant) : t.Dormant ∧ (t.errOvr = true → s.errOvr = true) := by
  have hload (c : Bool) : (if c then s.reload else s.count) = 0 := by rw [hs.reload, hs.count, ite_self]
  cases h with
  | wrReload _ d => exact absurd rfl (hi d)
  | wrCtrlConfigure _ d | wrCtrlConfigured _ d => exact ⟨{ hs with count := hload _ }, id⟩
  | tceCount _ _ h0 => exact absurd hs.count h0
  | tceExpire _ _ h1 => exact absurd (h1.symm.trans hs.count) (by decide)
  | seqT1 _ _ _ hp => exact absurd (hp.symm.trans hs.calm) (by decide)
  | seqT2 _ hq | adcDoneActive _ _ hq | adcDoneOther _ _ hq | seqT4 _ hq | adcTimeout _ _ hq =>
    exact absurd (hq.symm.trans hs.idle) (by decide)
  | reset => exact ⟨⟨rfl, rfl, rfl, rfl⟩, fun h => absurd h Bool.false_ne_true⟩
  | _ => exact ⟨{ hs with }, id⟩

/-- Settles O44: a run keeps the dormant sampler, and with RELOAD = 1 the arm loads the count that the next pulse
expires. -/
theorem reloadZeroNeverTicks : Obligations.ReloadZeroNeverTicks := by
  refine ⟨fun is s t hr hc hp hq his h => ?_, fun s hm ha hr => ?_⟩
  · obtain ⟨ht, herr⟩ := execAll_keeps (P := fun u => u.Dormant ∧ (u.errOvr = true → s.errOvr = true))
      (fun i hi u v hx ⟨hu, hold⟩ =>
        have ⟨hv, hnew⟩ := effect_keeps_dormant hx (his i hi) hu
        ⟨hv, hold ∘ hnew⟩) h ⟨⟨hr, hc, hp, hq⟩, id⟩
    exact ⟨ht.count, ht.calm, ht.idle, herr⟩
  · have harm := exec_wrCtrl_arms (d := 0x0001#16) hm ha (by decide)
    exact ⟨_, (execAll_cons harm).trans (execAll_cons (exec_of_effect (.tceExpire _ rfl hr))), rfl, rfl⟩

/-! ## Who raises an error -/

theorem isBounded_iff (b : Timeout) : isBounded b = true ↔ b ≠ .unbounded := by
  cases b <;> simp [isBounded]

/-- The duties that the block can check, broken (R254, R289, R290). -/
theorem keepsDuty_eq_false {i : Instr} {s : State} (h : keepsDuty s i = false) :
    (∃ d, i = .wrExpcmd d) ∧ s.exp.busy = true ∨
      ∃ d, i = .wrCtrl d ∧ (d.getLsbD 1 = true ∧ s.fmode ≠ .uncfg ∨
        d.getLsbD 1 = false ∧ d.getLsbD 0 = true ∧ s.fmode = .uncfg) := by
  cases i with
  | wrExpcmd d => exact .inl ⟨⟨d, rfl⟩, by simpa [keepsDuty] using h⟩
  | wrCtrl d =>
    refine .inr ⟨d, rfl, ?_⟩
    cases hm : s.fmode <;> simpa [keepsDuty, hm, FMode.configured, configureBit, armBit, and_comm] using h
  | _ => cases h

section
variable {i : Instr} {s t : State}

/-- Who sets ERR_OVR (R201). -/
theorem effect_errOvr_cause (h : Effect i s t) (hs : s.errOvr = false) (ht : t.errOvr = true) :
    i = .tce ∧ s.arm = true ∧ s.count = 1 ∧ s.pending = true := by
  cases h with
  | tceExpire _ ha h1 => exact ⟨rfl, ha, h1, by simpa [hs] using ht⟩
  | reset => cases ht
  | _ => exact absurd (hs.symm.trans ht) Bool.false_ne_true

/-- Who sets ERR_ADC_TO (R207). -/
theorem effect_errAdcTo_cause (h : Effect i s t) (hs : s.errAdcTo = false) (ht : t.errAdcTo = true) :
    i = .adcTimeout ∧ s.seq = .converting ∧ s.params.adcTimeout ≠ .unbounded := by
  cases h with
  | adcTimeout _ hb hq => exact ⟨rfl, hq, (isBounded_iff _).1 hb⟩
  | reset => cases ht
  | _ => exact absurd (hs.symm.trans ht) Bool.false_ne_true

/-- Who sets ERR_SPI_TO (R147). -/
theorem effect_errSpiTo_cause (h : Effect i s t) (hs : s.errSpiTo = false) (ht : t.errSpiTo = true) :
    i = .spiTimeout ∧ s.exp.busy = true ∧ s.params.spiTimeout ≠ .unbounded := by
  cases h with
  | spiTimeout _ hb he => exact ⟨rfl, he, (isBounded_iff _).1 hb⟩
  | reset => cases ht
  | _ => exact absurd (hs.symm.trans ht) Bool.false_ne_true

/-- What sets ERR_PROTO is a broken duty; RESET sets nothing (R254, R280). -/
theorem effect_errProto_cause (h : Effect i s t) (hs : s.errProto = false) (ht : t.errProto = true) :
    keepsDuty s i = false := by
  by_cases hi : i = .reset
  · subst hi
    rw [effect_unique h (.reset s)] at ht
    cases ht
  · simpa [effect_errProto h hi, hs] using ht

/-- No step raises two errors: TCE and the two timeouts write a bit each, the host's writes ERR_PROTO, RESET clears all
four, and no other step writes any (R240). -/
theorem effect_newErrors_le_one (h : Effect i s t) : (newErrors s t).count true ≤ 1 := by
  cases h with
  | tceExpire | adcTimeout | spiTimeout | wrExpcmdBusy | wrCtrlConfigured | wrCtrlRefused =>
    simp [newErrors, List.count_cons, ite_le_one]
  | _ => simp [newErrors]

end

/-! ## Steps of the whole block -/

/-- Taking a turn changes no error bit. -/
theorem newErrors_takeTurn (s t : State) : newErrors s.takeTurn t = newErrors s t := by
  simp [newErrors]

theorem newErrors_clockEdge (s : State) : newErrors s (clockEdge s) = List.replicate 4 false := by
  simp [newErrors]

theorem newErrors_resetElements (s : State) : newErrors s s.resetElements = List.replicate 4 false := by
  simp [newErrors]

/-- A step that sets an error bit is the step of an agent: a CLK edge and a further cycle of RST set none. -/
theorem step_newErrors {s t : State} (h : step s = .next t) :
    (∃ i, s.action = .instr i ∧ exec i s.takeTurn = .next t) ∨ newErrors s t = List.replicate 4 false := by
  unfold step at h
  split at h
  · cases ha : s.action with
    | instr i => rw [ha] at h; exact .inl ⟨i, rfl, h⟩
    | clock => rw [ha] at h; cases h; exact .inr (newErrors_takeTurn s _ ▸ newErrors_clockEdge _)
    | heldReset => rw [ha] at h; cases h; exact .inr (newErrors_takeTurn s _ ▸ newErrors_resetElements _)
  · cases h

/-- Settles O51: the cause of each bit, one bit at most in an effect, and none outside the steps of the agents. -/
theorem onlyTheListedCausesRaise : Obligations.OnlyTheListedCausesRaise := by
  refine ⟨fun i s t hx => ?_, fun s t h => ?_⟩
  · have h := exec_effect hx
    exact ⟨effect_errOvr_cause h, effect_errAdcTo_cause h, effect_errSpiTo_cause h,
      fun hs ht => keepsDuty_eq_false (effect_errProto_cause h hs ht), effect_newErrors_le_one h⟩
  · obtain ⟨i, ha, hx⟩ | hnone := step_newErrors h
    · exact ⟨newErrors_takeTurn s t ▸ effect_newErrors_le_one (exec_effect hx), fun _ => ⟨i, ha, hx⟩⟩
    · rw [hnone]
      exact ⟨by decide, fun hmem => absurd hmem (by decide)⟩

/-! ## The fault states -/

section
variable {i : Instr} {s t : State}

/-- In FAULT every step of SEQ lacks its guard, and an expiry can only set PENDING (R207, R247). -/
theorem effect_keeps_seqFault (h : Effect i s t) (hi : i ≠ .reset) (hs : s.seq = .fault) :
    t.seq = .fault ∧ t.tick = s.tick ∧ (s.pending = true → t.pending = true) ∧ t.outLatch = s.outLatch := by
  cases h with
  | seqT1 _ hq | seqT2 _ hq | adcDoneActive _ _ hq | adcDoneOther _ _ hq | seqT4 _ hq | adcTimeout _ _ hq =>
    exact absurd (hs.symm.trans hq) (by decide)
  | tceExpire => exact ⟨hs, rfl, fun _ => rfl, rfl⟩
  | reset => exact absurd rfl hi
  | _ => exact ⟨hs, rfl, id, rfl⟩

/-- In FAULT every step of SPIX lacks its guard, and what SAMP emits is no event of SPIX (R247). -/
theorem effect_keeps_expFault (h : Effect i s t) (hi : i ≠ .reset) (hs : s.exp = .fault) :
    t.spixView = s.spixView := by
  cases h with
  | wrExpcmdStart _ _ he | spiDone0 _ he | spiDone1 _ he | spiDone2 _ he =>
    exact absurd (hs.symm.trans he) (by decide)
  | spiTimeout _ _ he => simp [hs, ExpState.busy] at he
  | seqT1 | seqT2 | adcDoneActive | adcDoneOther | seqT4 => exact spixView_emit_samp rfl
  | reset => exact absurd rfl hi
  | _ => rfl

end

/-- Settles O53: no effect but RESET's leaves a fault state. -/
theorem faultStatesAreTerminal : Obligations.FaultStatesAreTerminal := by
  intro i s t hi hx
  have h := exec_effect hx
  refine ⟨effect_keeps_seqFault h hi, fun hs => ?_⟩
  have hview := effect_keeps_expFault h hi hs
  exact ⟨(congrArg SpixView.exp hview).trans hs, congrArg SpixView.csN hview, congrArg SpixView.events hview⟩

end Sys2Proof.Machine
end

section
/-! PROOFS. Exceptions: the error bits stay until a reset (O50), and the order of the events of one CLK cycle with its
effects (O56). -/

namespace Sys2Proof.Machine

/-! ## The error bits are sticky -/

/-- No effect but RESET's clears an error bit (R241). -/
theorem effect_keeps_errors {i : Instr} {s t : State} (h : Effect i s t) (hi : i ≠ .reset) :
    (s.errOvr = true → t.errOvr = true) ∧ (s.errAdcTo = true → t.errAdcTo = true) ∧
    (s.errSpiTo = true → t.errSpiTo = true) ∧ (s.errProto = true → t.errProto = true) := by
  cases h with
  | tceExpire => exact ⟨fun hs => by simp [hs], id, id, id⟩
  | adcTimeout => exact ⟨id, fun _ => rfl, id, id⟩
  | spiTimeout => exact ⟨id, id, fun _ => rfl, id⟩
  | wrExpcmdBusy => exact ⟨id, id, id, fun _ => rfl⟩
  | wrCtrlConfigured | wrCtrlRefused => exact ⟨id, id, id, fun hs => by simp [hs]⟩
  | reset => exact absurd rfl hi
  | _ => exact ⟨id, id, id, id⟩

/-- Settles O50: a turn that is not a reset is an effect other than RESET's, or a CLK edge, which writes no error bit. -/
theorem errorBitsAreSticky : Obligations.ErrorBitsAreSticky := by
  rintro s t (⟨i, hi, hx⟩ | ⟨hn, h⟩)
  · exact effect_keeps_errors (exec_effect hx) hi
  · obtain ⟨-, ⟨i, hx, -, hreset⟩ | ⟨-, rfl, -⟩ | ⟨hheld, -, -⟩⟩ := step_cases h
    · simpa using effect_keeps_errors (exec_effect hx) (fun hi => hn (hreset hi).2)
    · simp
    · exact absurd hheld hn

/-! ## The ranks of the turns of a cycle -/

@[simp] theorem turnRank_seqT2 : turnRank (.event .seqT2) = 3 := rfl
@[simp] theorem turnRank_adcDone (v : Word) : turnRank (.event (.adcDone v)) = 3 := rfl
@[simp] theorem turnRank_seqT4 : turnRank (.event .seqT4) = 3 := rfl
@[simp] theorem turnRank_spiDone : turnRank (.event .spiDone) = 3 := rfl
@[simp] theorem turnRank_tce : turnRank (.event .tce) = 4 := rfl
@[simp] theorem turnRank_adcTimeout : turnRank (.event .adcTimeout) = 4 := rfl
@[simp] theorem turnRank_spiTimeout : turnRank (.event .spiTimeout) = 4 := rfl
@[simp] theorem turnRank_seqT1 : turnRank (.event .seqT1) = 5 := rfl
@[simp] theorem turnRank_clk : turnRank .clk = 8 := rfl
@[simp] theorem turnRank_reset : turnRank (.event .reset) = 9 := rfl

@[simp] theorem turnRank_read (a : Three) (d : Word) : turnRank (.host (htWord false a d)) = 1 := by
  rcases address_cases a with rfl | rfl | rfl | rfl | rfl | rfl | rfl | rfl <;> simp [turnRank, decode]

@[simp] theorem turnRank_write (a : Three) (d : Word) :
    turnRank (.host (htWord true a d)) = if a = 5 then 2 else if a = 2 then 7 else 6 := by
  rcases address_cases a with rfl | rfl | rfl | rfl | rfl | rfl | rfl | rfl <;> simp [turnRank, decode]

/-- Every event comes after the reads of its cycle, whose rank is 1. -/
theorem one_lt_turnRank_event (e : Event) : 1 < turnRank (.event e) := by
  cases e <;> simp

/-- Every other turn comes before the RESET of its cycle, whose rank is 9. -/
theorem turnRank_lt_nine {a : Turn} (ha : a ≠ .event .reset) : turnRank a < 9 := by
  cases a with
  | host w =>
    obtain ⟨b, r, d, rfl⟩ := exists_fields w
    cases b with
    | false => simp
    | true => rw [turnRank_write]; split_ifs <;> decide
  | event e => cases e <;> simp at ha ⊢
  | clk => simp

/-! ## The order of two turns -/

/-- Without a completion, or without an SPI timeout, no timeout is dropped. -/
theorem dropBeatenTimeout_eq_self {l : List Turn} (h : .event .spiDone ∉ l ∨ .event .spiTimeout ∉ l) :
    dropBeatenTimeout l = l := by
  unfold dropBeatenTimeout
  split
  · next hdone =>
    have hout := h.resolve_left (not_not.2 (by simpa using hdone))
    exact List.filter_eq_self.2 fun t ht => by simpa using ne_of_mem_of_not_mem ht hout
  · rfl

/-- Two turns of different ranks are resolved by rank, however they are offered, unless the one is a completion that
beats the other. -/
theorem resolveCycle_pair {a b : Turn} (hab : turnRank a < turnRank b)
    (hspi : a ≠ .event .spiDone ∨ b ≠ .event .spiTimeout) :
    resolveCycle [a, b] = [a, b] ∧ resolveCycle [b, a] = [a, b] := by
  have hkept : Turn.event .spiDone ∉ [a, b] ∨ Turn.event .spiTimeout ∉ [a, b] := by
    by_cases ha : a = .event .spiDone
    · have hb := hspi.resolve_left (not_not.2 ha)
      simp [ha, hb.symm]
    by_cases hb : b = .event .spiDone
    · have ha' : a ≠ .event .spiTimeout := fun h => by simp [h, hb] at hab
      simp [hb, ha'.symm]
    · simp [Ne.symm ha, Ne.symm hb]
  have hkept' : Turn.event .spiDone ∉ [b, a] ∨ Turn.event .spiTimeout ∉ [b, a] := by
    simpa [or_comm, and_comm] using hkept
  simp [resolveCycle, dropBeatenTimeout_eq_self hkept, dropBeatenTimeout_eq_self hkept', insertTurn, hab.le,
    Nat.not_le.2 hab]

/-! ## The effects of two turns -/

section
variable {i j : Instr} {s t u : State}

/-- Two steps end with the effect of the second after that of the first. -/
theorem effect_of_execAll_pair (h : execAll [i, j] s = .next t) (hi : Effect i s u) : Effect j u t := by
  obtain ⟨v, hv⟩ := exec_next j u
  rw [execAll_cons (exec_of_effect hi), execAll_cons hv] at h
  cases h
  exact exec_effect hv

/-- Of what T1 reads, TCE writes only PENDING, and that to 1 (R200, R202). -/
theorem effect_tce_keeps_tickDue (h : Effect .tce s t) (hs : s.tickDue = true) :
    t.tickDue = true ∧ t.reload = s.reload := by
  obtain ⟨hq, ha, hp⟩ := (tickDue_iff s).1 hs
  rw [tickDue_iff]
  cases h with
  | read _ _ _ hr => cases hr
  | same | tceCount => exact ⟨⟨hq, ha, hp⟩, rfl⟩
  | tceExpire => exact ⟨⟨hq, ha, rfl⟩, rfl⟩

/-- A WR.CTRL with D[0] = 0 disarms and leaves a tick in progress (R210). -/
theorem effect_wrCtrl_disarms {d : Word} (h : Effect (.wrCtrl d) s t) (hd : d.getLsbD 0 = false) :
    t.seq = s.seq ∧ t.tick = s.tick ∧ t.arm = false := by
  cases h with
  | read _ _ _ hr => cases hr
  | same _ _ hs => exact hs.elim
  | wrCtrlConfigure | wrCtrlConfigured => exact ⟨rfl, rfl, hd⟩
  | wrCtrlRefused => exact ⟨rfl, rfl, by rw [armBit, hd, Bool.and_false]⟩

/-- ADC_DONE raises no ERR_ADC_TO and clears none (R205). -/
theorem effect_adcDone_errAdcTo {v : Word} (h : Effect (.adcDone v) s t) : t.errAdcTo = s.errAdcTo := by
  cases h <;> rfl

/-- SPI_DONE enters no fault state and raises no ERR_SPI_TO (R143). -/
theorem effect_spiDone_of_busy (h : Effect .spiDone s t) (hb : s.exp.busy = true) :
    t.exp ≠ .fault ∧ t.errSpiTo = s.errSpiTo := by
  cases h with
  | read _ _ _ hr => cases hr
  | same => exact ⟨fun hf => by simp [hf, ExpState.busy] at hb, rfl⟩
  | spiDone0 | spiDone1 | spiDone2 => exact ⟨by simp, rfl⟩

/-- The return of a tick comes before an expiry of its cycle, which is then not coalesced: set wins over clear. -/
theorem execAll_seqT4_tce (hq : s.seq = .done) (ha : s.arm = true) (hc : s.count = 1) (he : s.errOvr = false)
    (h : execAll [.seqT4, .tce] s = .next t) :
    t.pending = true ∧ t.errOvr = false ∧ t.seq = .idle ∧ t.tickDue = true := by
  rw [effect_unique (effect_of_execAll_pair h (.seqT4 s hq)) (.tceExpire _ ha hc)]
  exact ⟨rfl, by simp [he], rfl, by simp [tickDue_iff, ha]⟩

/-- The reload of T1 wins over a pulse of its cycle. -/
theorem execAll_tce_seqT1_count (hs : s.tickDue = true) (h : execAll [.tce, .seqT1] s = .next t) :
    t.count = s.reload := by
  obtain ⟨u, hu⟩ := exec_next .tce s
  have htce := exec_effect hu
  obtain ⟨hdue, hreload⟩ := effect_tce_keeps_tickDue htce hs
  obtain ⟨hq, ha, hp⟩ := (tickDue_iff u).1 hdue
  rw [effect_unique (effect_of_execAll_pair h htce) (.seqT1 u hq ha hp), hreload]

/-- A completion ends the wait, so a timeout of its cycle is not enabled any more. -/
theorem execAll_adcDone_adcTimeout {v : Word} (hs : s.seq = .converting)
    (h : execAll [.adcDone v, .adcTimeout] s = .next t) : t.seq = .done ∧ t.errAdcTo = s.errAdcTo := by
  obtain ⟨u, hu⟩ := exec_next (.adcDone v) s
  have hdone := exec_effect hu
  have hseq := effect_adcDone_seq hdone hs
  rw [effect_of_stays (effect_of_execAll_pair h hdone) (by simp [Stays, hseq])]
  exact ⟨hseq, effect_adcDone_errAdcTo hdone⟩

end

/-- Settles O56: the listed pairs are pairs of rising rank, and each effect is that of the second step after the first. -/
theorem sameCycleOrder : Obligations.SameCycleOrder := by
  refine ⟨fun a b hlisted => ?_, by decide, by decide, fun s t => ⟨?_, ?_, ?_, ?_, ?_, ?_, ?_, ?_, ?_⟩⟩
  · obtain ⟨hrank, hspi⟩ : turnRank a < turnRank b ∧ (a ≠ .event .spiDone ∨ b ≠ .event .spiTimeout) := by
      obtain ⟨rfl, rfl⟩ | ⟨rfl, rfl⟩ | ⟨rfl, d, rfl⟩ | ⟨rfl, d, rfl⟩ | ⟨d, e, rfl, rfl⟩ | ⟨rfl, d, rfl⟩ |
        ⟨⟨d, rfl⟩, rfl⟩ | ⟨⟨v, rfl⟩, rfl⟩ | ⟨⟨r, d, rfl⟩, e, rfl⟩ | ⟨ha, rfl⟩ := hlisted
      all_goals simp [one_lt_turnRank_event, turnRank_lt_nine, *]
    exact resolveCycle_pair hrank hspi
  · exact fun hq ha hc _ he h => execAll_seqT4_tce hq ha hc he h
  · exact fun hq ha hp h => execAll_tce_seqT1_count ((tickDue_iff s).2 ⟨hq, ha, hp⟩) h
  · intro d hm ha hd h
    rw [execAll_cons (exec_of_stays .tce (.inl ha)), execAll_cons (exec_wrCtrl_arms hm ha hd)] at h
    cases h
    rfl
  · intro e hq ha hp h
    rw [effect_unique (effect_of_execAll_pair h (.seqT1 s hq ha hp)) (.wrReload _ e)]
  · intro d e hm ha hd h
    rw [execAll_cons (exec_wrCtrl_arms hm ha hd), execAll_cons (exec_of_effect (.wrReload _ e))] at h
    cases h
    rfl
  · exact fun d hq ha hp hd h =>
      effect_wrCtrl_disarms (effect_of_execAll_pair h (.seqT1 s hq ha hp)) hd
  · intro d he h
    have hbusy : s.exp.busy = true := by rw [he]; rfl
    rw [effect_unique (effect_of_execAll_pair h (.wrExpcmdBusy s d hbusy)) (.spiDone2 _ he)]
    exact ⟨rfl, rfl⟩
  · exact fun v hs h => execAll_adcDone_adcTimeout hs h
  · exact fun hb h => effect_spiDone_of_busy (exec_effect h) hb

end Sys2Proof.Machine
end

section
/-! PROOFS. RESET: what it restores (O57), and RST held at 1 for further cycles (O7). -/

namespace Sys2Proof.Machine

/-! ## What the outside sees of a block with its reset values -/

/-- The output ports at their idle levels (R281). -/
theorem ports_resetElements (s : State) : s.resetElements.ports = ⟨false, true, false, none, 0, false⟩ := rfl

/-- Every register reads 0, the unused address 7 included, since no register shows what a reset keeps (R39, R62). -/
theorem regRead_resetElements (s : State) (a : Three) : regRead s.resetElements a = 0x0000#16 := by
  have hzero : ∀ a : Three, regRead State.reset a = 0x0000#16 := by decide
  calc regRead s.resetElements a
    _ = regRead State.reset a := rfl
    _ = 0x0000#16 := hzero a

/-- Settles O57: the elements come from `resetElements`, and so do the ports and the registers, which see no trace. -/
theorem resetRestoresEveryElement : Obligations.ResetRestoresEveryElement := by
  intro s
  refine ⟨_, exec_reset_eq s, rfl, ?_⟩
  rw [← resetElements_of_exec_reset (exec_reset_eq s)]
  exact ⟨ports_resetElements _, regRead_resetElements _⟩

/-! ## RST held at 1 -/

/-- While RST stays 1 a RESET turn repeats the reset without executing RESET (R280). -/
theorem step_of_heldReset {s : State} (hl : s.params.legal = true) (hn : s.nextTurn = .event .reset)
    (hr : s.rstHeld = true) : step s = .next s.takeTurn.resetElements := by
  simp [step, hl, State.action, hn, hr]

/-- On reset values, with no answer on the host bus, a further cycle of RST uses up its turn and does nothing else. -/
theorem step_of_heldReset_of_resetElements {s : State} {ts : List Turn} (hl : s.params.legal = true)
    (hs : s.sched = .event .reset :: ts) (hr : s.rstHeld = true) (hreset : s.resetElements = s)
    (hdata : s.rdata = none) : step s = .next { s with sched := ts } := by
  rw [step_of_heldReset hl (nextTurn_of_sched hs) hr, resetElements_takeTurn, hreset, takeTurn_of_sched hs]
  have hstart : s.adcStart = false := congrArg State.adcStart hreset.symm
  have htx : s.spiTx = none := congrArg State.spiTx hreset.symm
  simp [← hdata, ← hstart, ← htx, hr]

/-- A held RESET is alone in its cycle (R280). -/
theorem offerCycle_of_heldReset {s : State} {events : List Turn} (hr : s.rstHeld = true)
    (hmem : .event .reset ∈ events) : s.offerCycle events = { s with sched := .event .reset :: s.sched } := by
  have hadmit : s.admitCycle events = [.event .reset] := by simp [State.admitCycle, hr, hmem]
  rw [State.offerCycle, hadmit]
  rfl

/-- In a cycle without a held RESET every event is admitted. -/
theorem offerCycle_of_not_heldReset {s : State} {events : List Turn}
    (h : s.rstHeld = false ∨ .event .reset ∉ events) :
    s.offerCycle events = { s with sched := resolveCycle events ++ s.sched } := by
  have hadmit : s.admitCycle events = events := by
    obtain hr | hmem := h
    · simp [State.admitCycle, hr]
    · simp [State.admitCycle, hmem]
  rw [State.offerCycle, hadmit]

/-- Settles O7: the first turn executes RESET, and its reset values leave the second nothing to change. -/
theorem heldResetEmitsNothing : Obligations.HeldResetEmitsNothing := by
  refine ⟨fun s ts hl hr hs => ?_, fun _ _ => offerCycle_of_heldReset, fun _ _ => offerCycle_of_not_heldReset⟩
  have hstep := (stepRunsAgentEvent s .reset _ hl hs).2 rfl hr
  rw [exec_reset_eq] at hstep
  exact ⟨_, _, hstep, step_of_heldReset_of_resetElements hl rfl rfl rfl rfl, rfl, rfl, rfl⟩

end Sys2Proof.Machine
end
